-- ==== Sys2Proof/Word.lean ====
section
/-! DEFINITION. The word types, and the two-valued things the spec names: levels and directions. -/

namespace Sys2Proof

/-- A byte: a register of DataBytes, an operation word, half of an error descriptor. -/
abbrev Byte := BitVec 8

/-- A register of the host register file, 32 bits (10_state.md R21). -/
abbrev HostWord := BitVec 32

/-- The level of the data line (20_memory.md R41, decision D2: high = 1, low = 0). -/
inductive Level where
  | low
  | high
deriving DecidableEq, Repr, Inhabited

/-- The direction of the pin cell (10_state.md R18, decision D2: input = 0, output = 1). -/
inductive Direction where
  | input
  | output
deriving DecidableEq, Repr, Inhabited

end Sys2Proof
end

