-- ==== Sys2Proof/Config.lean ====
section
/-! DEFINITION. What an implementation fixes: the structural constants (00_scope.md R4), the open parameters (R5)
under their bounds, and the free values. The free values and the open parameters are opaque constants without a body. -/

namespace Sys2Proof

/-- `N_SLOTS`: transition slots of one capture (00_scope.md R4). -/
abbrev Config.nSlots : Nat := 41

/-- `N_COUNTS`: counters of one capture (00_scope.md R4). -/
abbrev Config.nCounts : Nat := 82

/-- `N_BITS`: data bits of one frame (00_scope.md R4). -/
abbrev Config.nBits : Nat := 40

/-- `N_BYTES`: data bytes of one frame (00_scope.md R4). -/
abbrev Config.nBytes : Nat := 5

/-- `CW`: the nominal width of one counter (00_scope.md R5, decision D6). Counters are naturals (log 2); only the
bound on `MAX_POLL` shows this width. -/
abbrev Config.counterWidth : Nat := 16

/-- `T_MIN_INTERVAL` in microseconds: 2 s between two READs, a duty of the host that the block does not enforce
(00_scope.md R5, 70_reset_and_hazards.md R200). Nothing in the machine reads it. -/
def Config.minIntervalMicros : ℚ := 2000000

/-- A rounding rule, for `FLOAT_FMT` (92_eei_decisions.md D12, 93_implementation_defined.md U3). -/
inductive Rounding where
  /-- To the nearest value, of two the one with the even significand. -/
  | nearestEven
  /-- To the nearest value, of two the one further from zero. -/
  | nearestAway
  /-- To the nearest value, of two the one closer to zero. -/
  | nearestZero
  /-- To the next value towards zero. -/
  | towardZero
  /-- To the next value below. -/
  | downward
  /-- To the next value above. -/
  | upward
deriving DecidableEq, Repr

/-- A binary floating-point format with a rounding rule, for `FLOAT_FMT` (00_scope.md R5, 92_eei_decisions.md D12). -/
structure FloatFmt where
  /-- How many significant bits there are. -/
  precision : Nat
  /-- The least exponent of the last place. -/
  minExp : Int
  /-- The greatest exponent of the last place. -/
  maxExp : Int
  /-- How a value between two of the format is rounded. -/
  rounding : Rounding
  /-- Whether a zero temperature with the sign set is a negative zero (43_reading.md R136, U3). -/
  negativeZero : Bool
deriving DecidableEq, Repr

/-- The parameters of the step relation (00_scope.md R5, 10_state.md R25). Durations are in microseconds. Only
`maxPoll` is read by a step; the durations are what the labels of `Hold` events stand for (44_sensor_session.md R145). -/
structure Params where
  /-- `MAX_POLL`. -/
  maxPoll : Nat
  /-- `T_WAKE_HIGH`. -/
  tWakeHigh : ℚ
  /-- `T_START_LOW`. -/
  tStartLow : ℚ
  /-- `T_ACK`. -/
  tAck : ℚ
  /-- `T_POLL`. -/
  tPoll : ℚ
  /-- `FLOAT_FMT`, or none. -/
  floatFmt : Option FloatFmt
deriving DecidableEq, Repr

/-- The constraints of 00_scope.md R5: `1 <= MAX_POLL <= 2^CW - 2`, `T_WAKE_HIGH >= 10 ms`, `T_START_LOW >= 1 ms`,
`20 µs <= T_ACK <= 40 µs`, `T_POLL` positive. -/
structure Params.Admissible (p : Params) : Prop where
  maxPoll_pos : 1 ≤ p.maxPoll
  maxPoll_le : p.maxPoll ≤ 2 ^ Config.counterWidth - 2
  tWakeHigh_ge : 10000 ≤ p.tWakeHigh
  tStartLow_ge : 1000 ≤ p.tStartLow
  tAck_ge : 20 ≤ p.tAck
  tAck_le : p.tAck ≤ 40
  tPoll_pos : 0 < p.tPoll

/-- Open: `MAX_POLL - 1` (00_scope.md R5; log 3). -/
opaque Config.maxPollLessOne : Fin 65534

/-- Open: what `T_WAKE_HIGH` exceeds its bound by, up to sign (log 3). -/
opaque Config.wakeHighSlack : ℚ

/-- Open: what `T_START_LOW` exceeds its bound by, up to sign (log 3). -/
opaque Config.startLowSlack : ℚ

/-- Open: what `T_ACK` exceeds its lower bound by, up to sign and cut at 20 (log 3). -/
opaque Config.ackSlack : ℚ

/-- Open: one of `T_POLL` and its inverse is this plus one, up to sign (log 3). -/
opaque Config.pollSlack : ℚ

/-- Open: which of the two `T_POLL` is (log 3). -/
opaque Config.pollBelowOne : Bool

/-- Open: `FLOAT_FMT` (00_scope.md R5; log 14). -/
opaque Config.floatFmt : Option FloatFmt

/-- The parameters of this machine: open, within their bounds (log 3). -/
def Config.params : Params where
  maxPoll := Config.maxPollLessOne.val + 1
  tWakeHigh := 10000 + |Config.wakeHighSlack|
  tStartLow := 1000 + |Config.startLowSlack|
  tAck := 20 + min |Config.ackSlack| 20
  tPoll := if Config.pollBelowOne then (1 + |Config.pollSlack|)⁻¹ else 1 + |Config.pollSlack|
  floatFmt := Config.floatFmt

/-- FREE VALUE: the level that answers sample number `n` of those the line list gives no level for
(20_memory.md R42, 93_implementation_defined.md U2; log 6). -/
opaque Config.freeLevel : Nat → Level

/-- FREE VALUE: what host read number `n` of HUM or TEMP returns while `RESULT_VALID = 0`
(10_state.md R22, U1; log 7). -/
opaque Config.freeResult : Nat → BitVec 16

/-- FREE VALUE: what host read number `n` of DATA0 to DATA4 returns while `READING_VALID = 0`
(10_state.md R22, U1; log 7). -/
opaque Config.freeByte : Nat → Byte

end Sys2Proof
end

