-- ==== Sys2Proof/Syntax.lean ====
section
/-! DEFINITION. The nine operations (30_encoding.md R60), and the operation word's format OP8 (R61). -/

namespace Sys2Proof

/-- The operations, one constructor per row of the opcode table (30_encoding.md R60, R65). SET_MODE has the only
operand any operation has, the direction `D` (R64). -/
inductive Instr where
  /-- IS_LOW, 40_datapin.md R80. -/
  | isLow
  /-- IS_HIGH, 40_datapin.md R81. -/
  | isHigh
  /-- SET_LOW, 40_datapin.md R82. -/
  | setLow
  /-- SET_HIGH, 40_datapin.md R83. -/
  | setHigh
  /-- SET_MODE d, 40_datapin.md R84. -/
  | setMode (d : Direction)
  /-- CAPTURE, 41_pulse_capture.md R90. -/
  | capture
  /-- DECODE, 42_frame_decoder.md R110. -/
  | decode
  /-- CONVERT, 43_reading.md R130. -/
  | convert
  /-- READ, 44_sensor_session.md R140. -/
  | read
deriving DecidableEq, Repr

/-- The fields of an operation word, format OP8 (30_encoding.md R61). -/
structure Op8 where
  /-- `UNIT = w[7:5]`, the component (R62). -/
  unit : BitVec 3
  /-- `FUNC = w[4:2]`, the operation within the component (R63). -/
  func : BitVec 3
  /-- `Z = w[1]`, which must be 0 (R64). -/
  z : BitVec 1
  /-- `D = w[0]`, the operand (R64). -/
  d : BitVec 1
deriving DecidableEq, Repr

end Sys2Proof
end

