-- ==== Sys2Proof/WellFormed.lean ====
section
/-! DEFINITION. Which field values make an assigned operation word (30_encoding.md R62 to R64, R67). An `Instr` is
well formed by its type: its one operand is a `Direction`. What can be ill formed is an operation word's fields. -/

namespace Sys2Proof

/-- `UNIT` 5, 6 and 7 are reserved (30_encoding.md R62). -/
def Op8.unitAssigned (f : Op8) : Bool := f.unit.toNat ≤ 4

/-- `FUNC` 5, 6 and 7 are reserved in unit 0; in units 1 to 4 only `FUNC = 0` is assigned (30_encoding.md R63). -/
def Op8.funcAssigned (f : Op8) : Bool := if f.unit = 0 then f.func.toNat ≤ 4 else f.func = 0

/-- `Z` must be 0 in every word (30_encoding.md R64). -/
def Op8.zClear (f : Op8) : Bool := f.z = 0

/-- `D` must be 0 in every word but SET_MODE's, unit 0 `FUNC` 4 (30_encoding.md R64). -/
def Op8.operandAllowed (f : Op8) : Bool := f.d = 0 || (f.unit = 0 && f.func = 4)

/-- The fields of an assigned word: all four checks of 30_encoding.md R67 passed. -/
def Op8.wellFormed (f : Op8) : Bool := f.unitAssigned && f.funcAssigned && f.zClear && f.operandAllowed

end Sys2Proof
end

