-- ==== Sys2Proof/Decode.lean ====
section
/-! DEFINITION. Operation words to operations, total and rejecting by name (30_encoding.md R61 to R67), and the
encoder, written from the same table (R65). -/

namespace Sys2Proof

/-- Why a word is no operation: the classes of reserved words of 30_encoding.md R67, and the absence of a word. -/
inductive Reserved where
  /-- `Z = 1`. -/
  | zSet
  /-- `UNIT` 5 to 7. -/
  | unit
  /-- `FUNC` 5 to 7 in unit 0, 1 to 7 in units 1 to 4. -/
  | func
  /-- `D = 1` outside SET_MODE. -/
  | operand
  /-- There is no byte to decode. -/
  | noWord
deriving DecidableEq, Repr

/-- The code of a direction (10_state.md R18, decision D2). -/
def Direction.bit : Direction → BitVec 1
  | .input => 0
  | .output => 1

/-- The direction of a code: `D = 0` input, `D = 1` output (30_encoding.md R64). -/
def Direction.ofBit (b : BitVec 1) : Direction := if b = 1 then .output else .input

/-- The fields of a word: `UNIT = w[7:5]`, `FUNC = w[4:2]`, `Z = w[1]`, `D = w[0]` (30_encoding.md R61). -/
def Op8.ofWord (w : Byte) : Op8 where
  unit := w.extractLsb' 5 3
  func := w.extractLsb' 2 3
  z := w.extractLsb' 1 1
  d := w.extractLsb' 0 1

/-- The word of the fields (30_encoding.md R61). -/
def Op8.toWord (f : Op8) : Byte := f.unit ++ f.func ++ f.z ++ f.d

/-- An operation without operand: `D` must be 0 (30_encoding.md R64). -/
def plainOp (f : Op8) (i : Instr) : Except Reserved Instr := if f.d = 0 then .ok i else .error .operand

/-- Unit 0, DataPin (30_encoding.md R63). -/
def decodeDataPin (f : Op8) : Except Reserved Instr :=
  match f.func.toNat with
  | 0 => plainOp f .isLow
  | 1 => plainOp f .isHigh
  | 2 => plainOp f .setLow
  | 3 => plainOp f .setHigh
  | 4 => .ok (.setMode (Direction.ofBit f.d))
  | _ => .error .func

/-- Units 1 to 4, which have one operation each, `FUNC = 0` (30_encoding.md R63). -/
def decodeSole (f : Op8) (i : Instr) : Except Reserved Instr :=
  if f.func = 0 then plainOp f i else .error .func

/-- The operation of the fields (30_encoding.md R62 to R65, R67). -/
def decodeFields (f : Op8) : Except Reserved Instr :=
  if f.z = 1 then .error .zSet
  else match f.unit.toNat with
    | 0 => decodeDataPin f
    | 1 => decodeSole f .capture
    | 2 => decodeSole f .decode
    | 3 => decodeSole f .convert
    | 4 => decodeSole f .read
    | _ => .error .unit

/-- The operation of an 8-bit operation word (30_encoding.md R65, R67). -/
def decodeWord (w : Byte) : Except Reserved Instr := decodeFields (Op8.ofWord w)

/-- Decoding of bytes: the first byte is the operation word, the rest is left over (30_encoding.md R61: one length). -/
def decodeBytes : List Byte → Except Reserved (Instr × List Byte)
  | [] => .error .noWord
  | w :: rest => (decodeWord w).map fun i => (i, rest)

/-- The fields of an operation's word (30_encoding.md R65). -/
def Instr.fields : Instr → Op8
  | .isLow => ⟨0, 0, 0, 0⟩
  | .isHigh => ⟨0, 1, 0, 0⟩
  | .setLow => ⟨0, 2, 0, 0⟩
  | .setHigh => ⟨0, 3, 0, 0⟩
  | .setMode d => ⟨0, 4, 0, d.bit⟩
  | .capture => ⟨1, 0, 0, 0⟩
  | .decode => ⟨2, 0, 0, 0⟩
  | .convert => ⟨3, 0, 0, 0⟩
  | .read => ⟨4, 0, 0, 0⟩

/-- The operation word of an operation (30_encoding.md R65). -/
def encode (i : Instr) : Byte := i.fields.toWord

/-- An operation is well formed when its word's fields are assigned ones (30_encoding.md R67). -/
def Instr.wellFormed (i : Instr) : Bool := i.fields.wellFormed

/-- What the decoder reads from the opcode table's word `w` of `nbits` bits: an operation word is one byte, and the
bits above `nbits` are 0. -/
def decodeTableWord (nbits w : Nat) : Option Instr :=
  match decodeBytes [BitVec.ofNat 8 (w % 2 ^ nbits)] with
  | .ok (i, _) => some i
  | .error _ => none

end Sys2Proof
end

