-- ==== Sys2Proof/Machine/State.lean ====
section
/-! DEFINITION. The state of the machine as plain data: everything the spec gives the block (10_state.md), the event
history it keeps for the model's sake (20_memory.md R45), and, as the model's own fields, what the outside world is
still to supply (levels of the line, actions of the host) and the counters of the free values. -/

namespace Sys2Proof.Machine

/-- `ST`, the session state (10_state.md R16). -/
inductive SessionState where
  | idle
  | wakeHigh
  | startLow
  | ackWait
  | capturing
  | decoding
  | done
  | initFailed
deriving DecidableEq, Repr

/-- `PHASE`, which of a slot's two poll loops is running (10_state.md R15). -/
inductive Phase where
  | low
  | high
deriving DecidableEq, Repr

/-- `CUR_OP`, the composite operation the sequencer is running (10_state.md R17). -/
inductive CurOp where
  | none
  | capture
  | decode
  | read
deriving DecidableEq, Repr

/-- The sequencer position `(ST, UPC, SLOT, PHASE)` together with `CUR_OP` (10_state.md R15, R17). -/
structure Position where
  /-- `ST`. -/
  st : SessionState
  /-- `UPC`, 0 to 7. -/
  upc : Fin 8
  /-- `SLOT`, 0 to 40. -/
  slot : Fin 41
  /-- `PHASE`. -/
  phase : Phase
  /-- `CUR_OP`. -/
  curOp : CurOp
deriving DecidableEq, Repr

/-- The three registers of the pin cell (10_state.md R18). -/
structure PinCell where
  /-- `PIN_DIR`. -/
  dir : Direction
  /-- `PIN_OUT`. -/
  out : Level
  /-- `PIN_RES`. -/
  res : Bool
deriving DecidableEq, Repr

/-- The stored flags (10_state.md R19). `BUSY` is derived from `ST`: `State.busy`. -/
structure Flags where
  /-- `INIT_FAIL`. -/
  initFail : Bool
  /-- `COUNTS_VALID`. -/
  countsValid : Bool
  /-- `READING_VALID`. -/
  readingValid : Bool
  /-- `RESULT_VALID`. -/
  resultValid : Bool
  /-- `CMD_REFUSED`. -/
  cmdRefused : Bool
deriving DecidableEq, Repr

/-- `ERR.KIND` (10_state.md R20, 60_exceptions.md R163). -/
inductive ErrKind where
  | none
  | initialization
  | readTimeout
  | checksum
deriving DecidableEq, Repr

/-- The error register `ERR` (10_state.md R20). -/
structure ErrorReg where
  /-- `ERR.KIND`. -/
  kind : ErrKind
  /-- `ERR.EXPECTED`. -/
  expected : Byte
  /-- `ERR.COMPUTED`. -/
  computed : Byte
deriving DecidableEq, Repr

/-- The result registers (10_state.md R14). -/
structure Results where
  /-- `HUM_RAW`, humidity in tenths of a percent. -/
  humRaw : BitVec 16
  /-- `TEMP_MAG`, temperature magnitude in tenths of a degree Celsius. -/
  tempMag : BitVec 15
  /-- `TEMP_NEG`. -/
  tempNeg : Bool
deriving DecidableEq, Repr

/-- The duration parameter a `Hold` event names (20_memory.md R45, 44_sensor_session.md R145). -/
inductive HoldParam where
  | wakeHigh
  | startLow
  | ack
deriving DecidableEq, Repr

/-- An event of the history (20_memory.md R45). -/
inductive Event where
  /-- `Sample(v)`. -/
  | sample (v : Level)
  /-- `Drive(l)`. -/
  | drive (l : Level)
  /-- `Mode(d)`. -/
  | mode (d : Direction)
  /-- `Hold(T)`. -/
  | hold (t : HoldParam)
deriving DecidableEq, Repr

/-- What the world outside the block can do to it besides answering samples (10_state.md R22, R23;
70_reset_and_hazards.md R190, R191). -/
inductive Input where
  /-- The host writes `value` to host register number `reg`. -/
  | write (reg : Nat) (value : HostWord)
  /-- The host reads host register number `reg`. -/
  | read (reg : Nat)
  /-- Reset, with the platform input `INIT_OK`. -/
  | reset (initOk : Bool)
deriving DecidableEq, Repr

/-- When an input lands (log 8): after so many more steps of the sequencer, or as soon as `BUSY = 0`, as the lines
of a host program do (30_encoding.md R70). -/
inductive Arrival where
  | after (steps : Nat)
  | whenIdle
deriving DecidableEq, Repr

/-- An input and when it lands. -/
structure HostEvent where
  arrival : Arrival
  input : Input
deriving DecidableEq, Repr

/-- The state of the machine. -/
structure State where
  /-- The sequencer position (10_state.md R15 to R17). -/
  pos : Position
  /-- The pin cell (10_state.md R18). -/
  pin : PinCell
  /-- The flags (10_state.md R19). -/
  flags : Flags
  /-- `ERR` (10_state.md R20). -/
  err : ErrorReg
  /-- RawCounts `x[0]` to `x[81]` (10_state.md R10, R11; naturals, log 2). -/
  counts : Vector Nat 82
  /-- `THRESH` (10_state.md R13). -/
  thresh : Nat
  /-- `SUMLOW` (10_state.md R13). -/
  sumLow : Nat
  /-- DataBytes `b[0]` to `b[4]` (10_state.md R12). -/
  bytes : Vector Byte 5
  /-- The result registers (10_state.md R14). -/
  result : Results
  /-- The event history, oldest first (20_memory.md R45). -/
  history : List Event
  /-- The model's own: the levels that answer the next samples (20_memory.md R42; log 6). -/
  line : List Level
  /-- The model's own: how many samples `Config.freeLevel` has answered (log 6). -/
  lineDraws : Nat
  /-- The model's own: how many host reads there have been, the number of the next read's free value (log 7). -/
  readDraws : Nat
  /-- The model's own: what the latest host read returned (log 9). -/
  hostData : HostWord
  /-- The model's own: the host events still to come, each counted from the one before it (log 8). -/
  inputs : List HostEvent
deriving DecidableEq, Repr

/-- Why the machine stops. -/
inductive Fault where
  /-- Raised by the sequencer in a position `(ST, UPC, CUR_OP)` for which the complete transition table of
  44_sensor_session.md R144 and R152 has no row. Safe: the machine stops where the spec gives no step, and no run
  from reset reaches such a position (log 11). -/
  | noTransition
deriving DecidableEq, Repr

/-- Why an instruction has no meaning. -/
inductive Refusal where
  /-- Raised by an arm of `exec` whose instruction has no meaning yet; no arm does. Safe: the machine stops. -/
  | notModelled (mnemonic : String)
deriving DecidableEq, Repr

/-- The sequencer position of Idle (44_sensor_session.md R150), and after reset of InitFailed too (10_state.md R26). -/
def Position.restAt (st : SessionState) : Position := ⟨st, 0, 0, .low, .none⟩

/-- `ERR` without an error (10_state.md R28). -/
def ErrorReg.clear : ErrorReg := ⟨.none, 0, 0⟩

/-- The state after reset with the platform input `INIT_OK` (10_state.md R26, 70_reset_and_hazards.md R191). The data
and result registers, which R26 leaves unspecified, hold 0 (DESIGN CHOICE, unsafe, log 5). -/
def State.resetWith (initOk : Bool) : State where
  pos := Position.restAt (if initOk then .idle else .initFailed)
  pin := ⟨.input, .high, false⟩
  flags := ⟨!initOk, false, false, false, false⟩
  err := ⟨if initOk then .none else .initialization, 0, 0⟩
  counts := Vector.replicate 82 0
  thresh := 0
  sumLow := 0
  bytes := Vector.replicate 5 0
  result := ⟨0, 0, false⟩
  history := []
  line := []
  lineDraws := 0
  readDraws := 0
  hostData := 0
  inputs := []

/-- The machine right after reset, its pin bound: `INIT_OK = 1` (DESIGN CHOICE, log 4). -/
def State.reset : State := State.resetWith true

end Sys2Proof.Machine
end

