-- ==== Sys2Proof/Machine/Operands.lean ====
section
/-! DEFINITION. The operand forms: which counter a poll counts into and which counters a decode reads
(20_memory.md R50, R55), the operand `D` of SET_MODE (30_encoding.md R64, `Direction.ofBit` of Decode.lean), and the
numeric codes of levels, states and kinds. No operation has an address operand. -/

namespace Sys2Proof.Machine

/-- The index of slot `s`'s low count, `2*s` (10_state.md R11). -/
def lowIndex (s : Fin 41) : Fin 82 := ⟨2 * s.val, by omega⟩

/-- The index of slot `s`'s high count, `2*s + 1` (10_state.md R11). -/
def highIndex (s : Fin 41) : Fin 82 := ⟨2 * s.val + 1, by omega⟩

/-- The counter a poll counts into, `2 * SLOT + PHASE` (20_memory.md R55). -/
def pollIndex (s : Fin 41) : Phase → Fin 82
  | .low => lowIndex s
  | .high => highIndex s

/-- Data bit `k` comes from slot `k + 1` (20_memory.md R48): slot 0 is the discarded pair. -/
def bitSlot (k : Fin 40) : Fin 41 := k.succ

/-- Data bit number `8*j + i`: bit `i`, counted from the first received, of byte `j` (20_memory.md R46). -/
def bitOfByte (j : Fin 5) (i : Fin 8) : Fin 40 := ⟨8 * j.val + i.val, by omega⟩

/-- The code of a level (20_memory.md R41, decision D2). -/
def levelBit : Level → BitVec 1
  | .low => 0
  | .high => 1

/-- The code of `PHASE` (10_state.md R15). -/
def Phase.bit : Phase → BitVec 1
  | .low => 0
  | .high => 1

/-- The code of `ST` (10_state.md R16). -/
def SessionState.code : SessionState → BitVec 3
  | .idle => 0
  | .wakeHigh => 1
  | .startLow => 2
  | .ackWait => 3
  | .capturing => 4
  | .decoding => 5
  | .done => 6
  | .initFailed => 7

/-- `CUR_OP` as the operation word of that operation, `0x00` for None (10_state.md R17). -/
def CurOp.word : CurOp → Byte
  | .none => 0x00
  | .capture => 0x20
  | .decode => 0x40
  | .read => 0x80

/-- The code of `ERR.KIND` (60_exceptions.md R163). -/
def ErrKind.code : ErrKind → BitVec 2
  | .none => 0
  | .initialization => 1
  | .readTimeout => 2
  | .checksum => 3

/-- The label of an error kind (60_exceptions.md R163); None has none. -/
def ErrKind.label : ErrKind → Option String
  | .none => .none
  | .initialization => some "initialization"
  | .readTimeout => some "timeout"
  | .checksum => some "checksum"

end Sys2Proof.Machine
end

