-- ==== Sys2Proof/Machine/Flags.lean ====
section
/-! DEFINITION. The flags: `BUSY`, who sets and clears the others (10_state.md R19), the invalidation cascade (R28),
and the register images the host reads them through (R21). -/

namespace Sys2Proof.Machine

/-- `BUSY = 1` exactly when `ST` is none of Idle, InitFailed (10_state.md R19). -/
def SessionState.busy : SessionState → Bool
  | .idle | .initFailed => false
  | _ => true

/-- `BUSY` (10_state.md R19). -/
def State.busy (s : State) : Bool := s.pos.st.busy

/-- Admission conditions (a) and (b): `INIT_FAIL = 0` and `ST = Idle` (30_encoding.md R66). -/
def State.portOpen (s : State) : Bool := !s.flags.initFail && s.pos.st == .idle

/-- The flag `CMD_REFUSED` after a refused word (30_encoding.md R66). -/
def Flags.refused (f : Flags) : Flags := { f with cmdRefused := true }

/-- The flag `CMD_REFUSED` after an accepted word (30_encoding.md R66). -/
def Flags.accepted (f : Flags) : Flags := { f with cmdRefused := false }

/-- The valid flags after an accepted CAPTURE or READ (10_state.md R28). -/
def Flags.cascadeCapture (f : Flags) : Flags :=
  { f with countsValid := false, readingValid := false, resultValid := false }

/-- The valid flags after an accepted DECODE (10_state.md R28). -/
def Flags.cascadeDecode (f : Flags) : Flags := { f with readingValid := false, resultValid := false }

/-- The valid flags after an accepted CONVERT, before it sets `RESULT_VALID` (10_state.md R28). -/
def Flags.cascadeConvert (f : Flags) : Flags := { f with resultValid := false }

/-- A capture filled all 41 slots (41_pulse_capture.md R94). -/
def Flags.captured (f : Flags) : Flags := { f with countsValid := true }

/-- Every DECODE at its end (42_frame_decoder.md R119), `ok` when the checksum matched (R117). -/
def Flags.decoded (f : Flags) (ok : Bool) : Flags :=
  { f with countsValid := false, readingValid := if ok then true else f.readingValid }

/-- A conversion consumes the Reading and produces the result (43_reading.md R130). -/
def Flags.converted (f : Flags) : Flags := { f with readingValid := false, resultValid := true }

/-- A Boolean as a bit. -/
def boolBit (b : Bool) : BitVec 1 := BitVec.ofBool b

/-- The STATUS register (10_state.md R21): `CUR_OP` 31:24, `PHASE` 22, `SLOT` 21:16, `UPC` 14:12, `ST` 10:8,
`CMD_REFUSED` 5, `RESULT_VALID` 4, `READING_VALID` 3, `COUNTS_VALID` 2, `INIT_FAIL` 1, `BUSY` 0; other bits 0.
`CUR_OP` reads `0x00` while `BUSY = 0` (R17). -/
def State.statusImage (s : State) : HostWord :=
  (if s.busy then s.pos.curOp.word else 0) ++ 0#1 ++ s.pos.phase.bit ++ BitVec.ofNat 6 s.pos.slot.val ++
  0#1 ++ BitVec.ofNat 3 s.pos.upc.val ++ 0#1 ++ s.pos.st.code ++
  0#2 ++ boolBit s.flags.cmdRefused ++ boolBit s.flags.resultValid ++ boolBit s.flags.readingValid ++
  boolBit s.flags.countsValid ++ boolBit s.flags.initFail ++ boolBit s.busy

/-- The ERR register (10_state.md R21): `COMPUTED` 23:16, `EXPECTED` 15:8, `KIND` 1:0; other bits 0. -/
def State.errImage (s : State) : HostWord := 0#8 ++ s.err.computed ++ s.err.expected ++ 0#6 ++ s.err.kind.code

/-- The PIN register (10_state.md R21): `RES` 2, `OUT` 1, `DIR` 0; other bits 0. -/
def State.pinImage (s : State) : HostWord := 0#29 ++ boolBit s.pin.res ++ levelBit s.pin.out ++ s.pin.dir.bit

/-- The sixteen bits of the HUM register, `HUM_RAW` (10_state.md R21). -/
def State.humField (s : State) : BitVec 16 := s.result.humRaw

/-- The sixteen bits of the TEMP register: `TEMP_NEG` 15, `TEMP_MAG` 14:0 (10_state.md R21). -/
def State.tempField (s : State) : BitVec 16 := boolBit s.result.tempNeg ++ s.result.tempMag

end Sys2Proof.Machine
end

