-- ==== Sys2Proof/Machine/Ops.lean ====
section
/-! DEFINITION. The named operations over the registers and the pin, shared by the meanings: the pin primitives
(20_memory.md R41 to R45), the counters, acceptance and refusal of a word (30_encoding.md R66), error entry
(60_exceptions.md R166) and the return to Idle (44_sensor_session.md R150), and reset (70_reset_and_hazards.md R190). -/

namespace Sys2Proof.Machine

/-- What a machine step answers. -/
abbrev Result := Host.Outcome State Fault Refusal

/-! ### The pin -/

/-- The level the next sample returns: the line list's next level, else a free value (20_memory.md R42; log 6). -/
def State.nextLevel (s : State) : Level :=
  match s.line with
  | v :: _ => v
  | [] => Config.freeLevel s.lineDraws

/-- `PinRead()`'s effect: one sample is taken and its `Sample` event recorded (20_memory.md R41, R45). The value it
returns is `s.nextLevel`. -/
def State.takeSample (s : State) : State :=
  { s with
    history := s.history ++ [.sample s.nextLevel]
    line := s.line.tail
    lineDraws := if s.line.isEmpty then s.lineDraws + 1 else s.lineDraws }

/-- `PinWrite(l)`: `PIN_OUT <- l` and a `Drive(l)` event (20_memory.md R43, R45). -/
def State.pinWrite (l : Level) (s : State) : State :=
  { s with pin := { s.pin with out := l }, history := s.history ++ [.drive l] }

/-- `PinMode(d)`: `PIN_DIR <- d` and a `Mode(d)` event (20_memory.md R44, R45). -/
def State.pinMode (d : Direction) (s : State) : State :=
  { s with pin := { s.pin with dir := d }, history := s.history ++ [.mode d] }

/-- `Hold(T)`: only its event; the position moves as the micro-step says (44_sensor_session.md R145). -/
def State.hold (t : HoldParam) (s : State) : State := { s with history := s.history ++ [.hold t] }

/-- One IS_LOW or IS_HIGH: one sample, `PIN_RES` 1 when it found the level asked for (40_datapin.md R80, R81). -/
def State.poll (asked : Level) (s : State) : State :=
  { s.takeSample with pin := { s.pin with res := s.nextLevel == asked } }

/-- The level the cell drives the line at: `PIN_OUT` while it is an output, none while it is an input
(20_memory.md R43). -/
def State.driven (s : State) : Option Level :=
  match s.pin.dir with
  | .output => some s.pin.out
  | .input => none

/-! ### The counters -/

/-- `x[i]` (10_state.md R10). -/
def State.counter (s : State) (i : Fin 82) : Nat := s.counts[i]

/-- `x[i] <- v` (10_state.md R10). -/
def State.setCounter (i : Fin 82) (v : Nat) (s : State) : State := { s with counts := s.counts.set i v }

/-- Capture entry: every counter 0, `SLOT`, `PHASE` 0, `ST` Capturing (41_pulse_capture.md R91). -/
def State.captureEntry (s : State) : State :=
  { s with
    counts := Vector.replicate 82 0
    pos := { s.pos with st := .capturing, slot := 0, phase := .low } }

/-! ### Words accepted and refused -/

/-- A refused word: `CMD_REFUSED <- 1` and nothing else (30_encoding.md R66). -/
def State.refuse (s : State) : State := { s with flags := s.flags.refused }

/-- An accepted word: `CMD_REFUSED <- 0` (30_encoding.md R66). -/
def State.accept (s : State) : State := { s with flags := s.flags.accepted }

/-- Admission (30_encoding.md R66): the word of an operation whose input is `ready` is accepted when the port is
open, and then has its effect; otherwise it is refused. -/
def issue (ready : Bool) (effect : State → State) (s : State) : Result :=
  if s.portOpen && ready then .next (effect s.accept) else .next s.refuse

/-! ### Errors and the way back to Idle -/

/-- Return to Idle: `ST <- Idle; UPC, SLOT, PHASE <- 0; CUR_OP <- None` (44_sensor_session.md R150). -/
def State.returnToIdle (s : State) : State := { s with pos := Position.restAt .idle }

/-- `raise K(info)`, taking an error: ERR is written, the valid flags stay as they are, and the sequencer returns to
Idle, all in the detecting step (60_exceptions.md R166). -/
def State.raiseError (e : ErrorReg) (s : State) : State := State.returnToIdle { s with err := e }

/-- `ReadTimeout` carries no information (60_exceptions.md R162). -/
def ErrorReg.readTimeout : ErrorReg := ⟨.readTimeout, 0, 0⟩

/-- `Checksum(expected, computed)` (60_exceptions.md R164). -/
def ErrorReg.checksum (expected computed : Byte) : ErrorReg := ⟨.checksum, expected, computed⟩

/-- The error register is cleared when a composite operation or CONVERT is accepted: the nearest thing to a return
from an error (10_state.md R28, 60_exceptions.md R170). -/
def State.clearError (s : State) : State := { s with err := ErrorReg.clear }

/-! ### Reset -/

/-- Reset at any step: every piece of the block's state at its reset value (70_reset_and_hazards.md R190). The
history, which is not hardware state, and the outside world go on (log 13). -/
def State.resetBlock (initOk : Bool) (s : State) : State :=
  { State.resetWith initOk with
    history := s.history
    line := s.line
    lineDraws := s.lineDraws
    readDraws := s.readDraws
    hostData := s.hostData
    inputs := s.inputs }

end Sys2Proof.Machine
end

