-- ==== Sys2Proof/Machine/DataPin.lean ====
section
/-! DEFINITION. DataPin: IS_LOW, IS_HIGH, SET_LOW, SET_HIGH, SET_MODE (40_datapin.md). -/

namespace Sys2Proof.Machine

/-- IS_LOW (40_datapin.md R80). -/
def execIsLow (s : State) : Result := issue true (State.poll .low) s

/-- IS_HIGH (40_datapin.md R81). -/
def execIsHigh (s : State) : Result := issue true (State.poll .high) s

/-- SET_LOW (40_datapin.md R82). -/
def execSetLow (s : State) : Result := issue true (State.pinWrite .low) s

/-- SET_HIGH (40_datapin.md R83). -/
def execSetHigh (s : State) : Result := issue true (State.pinWrite .high) s

/-- SET_MODE d (40_datapin.md R84). -/
def execSetMode (d : Direction) (s : State) : Result := issue true (State.pinMode d) s

end Sys2Proof.Machine
end

