-- ==== Sys2Proof/Machine/FrameDecoder.lean ====
section
/-! DEFINITION. FrameDecoder: DECODE, that is the threshold calculator, the bit reconstructor and the checksum
validator (42_frame_decoder.md). -/

namespace Sys2Proof.Machine

/-- `SUMLOW = x[2] + x[4] + ... + x[80]`, the 40 valid low counts; `x[0]` is not among them (42_frame_decoder.md
R111, R112). -/
def sumLowOf (x : Vector Nat 82) : Nat := ((List.finRange 40).map fun k => x[lowIndex (bitSlot k)]).sum

/-- `THRESH = SUMLOW div 40`, truncating (42_frame_decoder.md R112). -/
def threshOf (x : Vector Nat 82) : Nat := sumLowOf x / 40

/-- `bit_k`: 1 when the high count of slot `k + 1` is greater than or equal to the threshold (42_frame_decoder.md
R113). -/
def dataBit (x : Vector Nat 82) (k : Fin 40) : Bool := decide (x[highIndex (bitSlot k)] ≥ threshOf x)

/-- One bit appended to the byte being assembled: `byte <- (byte * 2 + bit) & 0xFF` (42_frame_decoder.md R114). -/
def appendBit (byte : Byte) (b : Bool) : Byte := byte * 2 + (boolBit b).setWidth 8

/-- Byte `j`: its eight bits in the order received, most significant first (42_frame_decoder.md R114). -/
def packByte (x : Vector Nat 82) (j : Fin 5) : Byte :=
  ((List.finRange 8).map fun i => dataBit x (bitOfByte j i)).foldl appendBit 0

/-- The five bytes of a capture (42_frame_decoder.md R114). -/
def packBytes (x : Vector Nat 82) : Vector Byte 5 :=
  #v[packByte x 0, packByte x 1, packByte x 2, packByte x 3, packByte x 4]

/-- `c16`, the 16-bit intermediate sum of bytes 0 to 3 (42_frame_decoder.md R115). -/
def checksum16 (q : Vector Byte 5) : BitVec 16 :=
  q[0].setWidth 16 + q[1].setWidth 16 + q[2].setWidth 16 + q[3].setWidth 16

/-- `computed = c16[7:0]` (42_frame_decoder.md R115). -/
def computedChecksum (q : Vector Byte 5) : Byte := (checksum16 q).extractLsb' 0 8

/-- `expected = b[4]` (42_frame_decoder.md R115, R116). -/
def expectedChecksum (q : Vector Byte 5) : Byte := q[4]

/-- The checksum relation of a Reading (10_state.md R12). -/
def checksumOk (q : Vector Byte 5) : Bool := expectedChecksum q == computedChecksum q

/-- What an accepted DECODE does in its first step: the cascade, `CUR_OP <- DECODE`, `ST <- Decoding`
(42_frame_decoder.md R110). -/
def State.beginDecode (s : State) : State :=
  { s.clearError with
    flags := s.flags.cascadeDecode
    pos := { s.pos with st := .decoding, curOp := .decode } }

/-- DECODE, admitted only with `COUNTS_VALID = 1` (42_frame_decoder.md R110). -/
def execDecode (s : State) : Result := issue s.flags.countsValid State.beginDecode s

/-- What every decode writes: `SUMLOW`, `THRESH` and all five bytes (42_frame_decoder.md R112, R114), and
`COUNTS_VALID <- 0` at its end, `READING_VALID <- 1` when the checksum matched (R117, R119). -/
def State.writeDecode (s : State) : State :=
  { s with
    sumLow := sumLowOf s.counts
    thresh := threshOf s.counts
    bytes := packBytes s.counts
    flags := s.flags.decoded (checksumOk (packBytes s.counts)) }

/-- Leaving Decoding on success: Idle for a DECODE, Done for a READ (42_frame_decoder.md R120). The spec has no row
for another `CUR_OP` (log 11). -/
def decodeComplete (s : State) : Result :=
  match s.pos.curOp with
  | .decode => .next s.returnToIdle
  | .read => .next { s with pos := { s.pos with st := .done } }
  | .none | .capture => .fault .noTransition

/-- The one atomic decode step (42_frame_decoder.md R111 to R120). -/
def decodeStep (s : State) : Result :=
  let t := s.writeDecode
  if checksumOk t.bytes then decodeComplete t
  else .next (t.raiseError (.checksum (expectedChecksum t.bytes) (computedChecksum t.bytes)))

end Sys2Proof.Machine
end

