-- ==== Sys2Proof/Machine/PulseCapture.lean ====
section
/-! DEFINITION. PulseCapture: CAPTURE and the poll steps of a capture (41_pulse_capture.md). -/

namespace Sys2Proof.Machine

/-- What an accepted CAPTURE does in its first step: the cascade, `CUR_OP <- CAPTURE`, capture entry
(41_pulse_capture.md R90, R91). -/
def State.beginCapture (s : State) : State :=
  State.captureEntry { s.clearError with
    flags := s.flags.cascadeCapture
    pos := { s.pos with curOp := .capture } }

/-- CAPTURE (41_pulse_capture.md R90). -/
def execCapture (s : State) : Result := issue true State.beginCapture s

/-- The level a poll loop waits out: the low loop counts low samples, the high loop high ones (41_pulse_capture.md
R92, R93). -/
def Phase.waitsOut : Phase → Level
  | .low => .low
  | .high => .high

/-- A poll that found the level its loop waits out is counted; the counter becoming `MAX_POLL + 1` raises
ReadTimeout in the same step (41_pulse_capture.md R92, R93, R95). `s` is the state after the sample. -/
def countPoll (maxPoll : Nat) (s : State) : State :=
  let i := pollIndex s.pos.slot s.pos.phase
  let t := s.setCounter i (s.counter i + 1)
  if t.counter i > maxPoll then t.raiseError .readTimeout else t

/-- Leaving Capturing on success: `COUNTS_VALID <- 1`, then Idle for a CAPTURE, Decoding for a READ
(41_pulse_capture.md R94, R101). `SLOT` and `PHASE` go to 0 with it (95_test_vectors.md V-ST-5; DEDUCED, log 10). The
spec has no row for another `CUR_OP` (log 11). -/
def captureComplete (s : State) : Result :=
  let t := { s with flags := s.flags.captured }
  match s.pos.curOp with
  | .capture => .next t.returnToIdle
  | .read => .next { t with pos := { s.pos with st := .decoding, slot := 0, phase := .low } }
  | .none | .decode => .fault .noTransition

/-- A high-phase poll that found the line low: the next slot, or completion after slot 40 (41_pulse_capture.md R94). -/
def slotAdvance (s : State) : Result :=
  if h : s.pos.slot.val < 40 then
    .next { s with pos := { s.pos with slot := ⟨s.pos.slot.val + 1, by omega⟩, phase := .low } }
  else captureComplete s

/-- A poll that ends its loop is counted nowhere: the low loop hands over to the high loop, the high loop to the next
slot (41_pulse_capture.md R92, R93). -/
def endLoop (s : State) : Result :=
  match s.pos.phase with
  | .low => .next { s with pos := { s.pos with phase := .high } }
  | .high => slotAdvance s

/-- One poll step of a capture (41_pulse_capture.md R92, R93): an IS_LOW in the low phase, an IS_HIGH in the high
phase. -/
def captureStep (p : Params) (s : State) : Result :=
  let t := s.poll s.pos.phase.waitsOut
  if s.nextLevel = s.pos.phase.waitsOut then .next (countPoll p.maxPoll t) else endLoop t

end Sys2Proof.Machine
end

