-- ==== Sys2Proof/Machine/Reading.lean ====
section
/-! DEFINITION. Reading: CONVERT, from five bytes to humidity and temperature (43_reading.md). -/

namespace Sys2Proof.Machine

/-- The conversion as a total function on five bytes; it does not read byte 4 (43_reading.md R131, R132, R135). -/
def convert (q : Vector Byte 5) : Results where
  humRaw := BitVec.ofNat 16 (q[0].toNat * 256 + q[1].toNat)
  tempMag := BitVec.ofNat 15 ((q[2].toNat &&& 0x7F) * 256 + q[3].toNat)
  tempNeg := q[2].getLsbD 7

/-- The body of CONVERT, also READ's last step (43_reading.md R130): the result registers are written and the Reading
consumed. -/
def State.convertBody (s : State) : State :=
  { s with result := convert s.bytes, flags := s.flags.converted }

/-- What an accepted CONVERT does: the cascade, then the body (43_reading.md R130). -/
def State.cascadeThenConvert (s : State) : State :=
  State.convertBody { s.clearError with flags := s.flags.cascadeConvert }

/-- CONVERT, admitted only with `READING_VALID = 1` (43_reading.md R130). -/
def execConvert (s : State) : Result := issue s.flags.readingValid State.cascadeThenConvert s

/-! ### What the results denote (43_reading.md R133) -/

/-- Humidity in tenths of a percent. -/
def Results.humidityTenths (r : Results) : Int := r.humRaw.toNat

/-- Temperature in tenths of a degree Celsius, sign and magnitude (43_reading.md R132). -/
def Results.temperatureTenths (r : Results) : Int := if r.tempNeg then -(r.tempMag.toNat : Int) else r.tempMag.toNat

/-- Humidity in percent: `HUM_RAW / 10`, exact. -/
def Results.humidity (r : Results) : ℚ := (r.humidityTenths : ℚ) / 10

/-- Temperature in degrees Celsius: `(-1)^TEMP_NEG * TEMP_MAG / 10`, exact. -/
def Results.temperature (r : Results) : ℚ := (r.temperatureTenths : ℚ) / 10

end Sys2Proof.Machine

namespace Sys2Proof

/-- A rational is a value of the format: a whole number of at most `precision` bits times a power of two
(43_reading.md R133; log 14). -/
def FloatFmt.Holds (f : FloatFmt) (v : ℚ) : Prop :=
  ∃ m e : Int, |m| < 2 ^ f.precision ∧ f.minExp ≤ e ∧ e ≤ f.maxExp ∧ v = m * (2 : ℚ) ^ e

/-- A value of the format with an even significand: of two neighbours in the format exactly one is. -/
def FloatFmt.HoldsEven (f : FloatFmt) (v : ℚ) : Prop :=
  ∃ m e : Int, Even m ∧ |m| < 2 ^ f.precision ∧ f.minExp ≤ e ∧ e ≤ f.maxExp ∧ v = m * (2 : ℚ) ^ e

/-- `v` is a value of the format nearest to `q` (43_reading.md R133). -/
def FloatFmt.IsNearest (f : FloatFmt) (q v : ℚ) : Prop := f.Holds v ∧ ∀ w, f.Holds w → |q - v| ≤ |q - w|

/-- `v` is the greatest value of the format that is not above `q`. -/
def FloatFmt.IsFloor (f : FloatFmt) (q v : ℚ) : Prop := f.Holds v ∧ v ≤ q ∧ ∀ w, f.Holds w → w ≤ q → w ≤ v

/-- `v` is the least value of the format that is not below `q`. -/
def FloatFmt.IsCeil (f : FloatFmt) (q v : ℚ) : Prop := f.Holds v ∧ q ≤ v ∧ ∀ w, f.Holds w → q ≤ w → v ≤ w

/-- `v` is `q` rounded to the format by its rounding rule (43_reading.md R133, 92_eei_decisions.md D12; log 14). -/
def FloatFmt.IsRounded (f : FloatFmt) (q v : ℚ) : Prop :=
  match f.rounding with
  | .nearestEven => f.IsNearest q v ∧ ∀ w, f.IsNearest q w → w ≠ v → f.HoldsEven v
  | .nearestAway => f.IsNearest q v ∧ ∀ w, f.IsNearest q w → |w| ≤ |v|
  | .nearestZero => f.IsNearest q v ∧ ∀ w, f.IsNearest q w → |v| ≤ |w|
  | .towardZero => if 0 ≤ q then f.IsFloor q v else f.IsCeil q v
  | .downward => f.IsFloor q v
  | .upward => f.IsCeil q v

/-- `v` is the floating-point humidity of a consumer that uses the format `f` (43_reading.md R133). -/
def Machine.Results.IsFloatHumidity (f : FloatFmt) (r : Machine.Results) (v : ℚ) : Prop := f.IsRounded r.humidity v

/-- `v`, with the sign bit `negative`, is the floating-point temperature of a consumer that uses the format `f`
(43_reading.md R133; R136 and U3 for the sign of a zero). -/
def Machine.Results.IsFloatTemperature (f : FloatFmt) (r : Machine.Results) (v : ℚ) (negative : Bool) : Prop :=
  f.IsRounded r.temperature v ∧ negative = if v = 0 then f.negativeZero && r.tempNeg else decide (v < 0)

end Sys2Proof
end

