-- ==== Sys2Proof/Machine/SensorSession.lean ====
section
/-! DEFINITION. SensorSession: READ, the wake sequence and the sequencer's transition table (44_sensor_session.md). -/

namespace Sys2Proof.Machine

/-- What an accepted READ does in its first step: the cascade, `CUR_OP <- READ`, `ST <- WakeHigh`, `UPC <- 0`
(44_sensor_session.md R140). -/
def State.beginRead (s : State) : State :=
  { s.clearError with
    flags := s.flags.cascadeCapture
    pos := { s.pos with st := .wakeHigh, upc := 0, curOp := .read } }

/-- READ (44_sensor_session.md R140). -/
def execRead (s : State) : Result := issue true State.beginRead s

/-- What a micro-step of the wake sequence does to the pin (44_sensor_session.md R144). -/
inductive MicroOp where
  | setMode (d : Direction)
  | setLevel (l : Level)
  | hold (t : HoldParam)
  /-- `SET_MODE IN`, then capture entry, in one step. -/
  | releaseAndCapture
deriving DecidableEq, Repr

/-- A row of the micro-step table (44_sensor_session.md R144). -/
structure MicroStep where
  /-- `ST` before. -/
  st : SessionState
  /-- The micro-step. -/
  op : MicroOp
  /-- `ST` after. -/
  st' : SessionState
  /-- `UPC` after. -/
  upc' : Fin 8
deriving DecidableEq, Repr

/-- The eight micro-steps, by `UPC` (44_sensor_session.md R144; R141 to R143 give their order). -/
def microStep : Fin 8 → MicroStep
  | 0 => ⟨.wakeHigh, .setMode .output, .wakeHigh, 1⟩
  | 1 => ⟨.wakeHigh, .setLevel .high, .wakeHigh, 2⟩
  | 2 => ⟨.wakeHigh, .hold .wakeHigh, .startLow, 3⟩
  | 3 => ⟨.startLow, .setLevel .low, .startLow, 4⟩
  | 4 => ⟨.startLow, .hold .startLow, .ackWait, 5⟩
  | 5 => ⟨.ackWait, .setLevel .high, .ackWait, 6⟩
  | 6 => ⟨.ackWait, .hold .ack, .ackWait, 7⟩
  | 7 => ⟨.ackWait, .releaseAndCapture, .capturing, 0⟩

/-- The effect of a micro-step, as the DataPin operation of that name has it, without admission (40_datapin.md). -/
def MicroOp.run : MicroOp → State → State
  | .setMode d, s => s.pinMode d
  | .setLevel l, s => s.pinWrite l
  | .hold t, s => s.hold t
  | .releaseAndCapture, s => (s.pinMode .input).captureEntry

/-- The position after a micro-step: `ST` and `UPC` as its row says (44_sensor_session.md R144). -/
def State.moveTo (st : SessionState) (upc : Fin 8) (s : State) : State :=
  { s with pos := { s.pos with st := st, upc := upc } }

/-- One micro-step of the wake sequence (44_sensor_session.md R144). The spec has no row for `UPC` with another `ST`
(log 11). -/
def wakeStep (s : State) : Result :=
  let r := microStep s.pos.upc
  if s.pos.st = r.st then .next ((r.op.run s).moveTo r.st' r.upc') else .fault .noTransition

/-- The step in Done: the body of CONVERT, then Idle (44_sensor_session.md R148). -/
def State.doneStep (s : State) : State := s.convertBody.returnToIdle

/-- One step of the sequencer (44_sensor_session.md R152). In Idle and InitFailed it has no step of its own, and the
state stays (70_reset_and_hazards.md R190, R192; log 12). -/
def sequencerStep (p : Params) (s : State) : Result :=
  match s.pos.st with
  | .idle => .next s
  | .wakeHigh => wakeStep s
  | .startLow => wakeStep s
  | .ackWait => wakeStep s
  | .capturing => captureStep p s
  | .decoding => decodeStep s
  | .done => .next s.doneStep
  | .initFailed => .next s

end Sys2Proof.Machine
end

