-- ==== Sys2Proof/Machine/Dispatch.lean ====
section
/-! DEFINITION. Which meaning each operation has, one arm per constructor. -/

namespace Sys2Proof.Machine

-- The step in which the operation's word is presented on CMD (10_state.md R23, 30_encoding.md R66).
def exec (i : Instr) (s : State) : Host.Outcome State Fault Refusal :=
  match i with
  | .isLow => Sys2Proof.Machine.execIsLow s
  | .isHigh => Sys2Proof.Machine.execIsHigh s
  | .setLow => Sys2Proof.Machine.execSetLow s
  | .setHigh => Sys2Proof.Machine.execSetHigh s
  | .setMode d => Sys2Proof.Machine.execSetMode d s
  | .capture => Sys2Proof.Machine.execCapture s
  | .decode => Sys2Proof.Machine.execDecode s
  | .convert => Sys2Proof.Machine.execConvert s
  | .read => Sys2Proof.Machine.execRead s

end Sys2Proof.Machine
end

