-- ==== Sys2Proof/Machine/HostPort.lean ====
section
/-! DEFINITION. The host's side of the block: its register file (10_state.md R21 to R23), reset as an input, and the
machine step that lets the next host event land when it is due (log 8). -/

namespace Sys2Proof.Machine

/-- A write of `v` to host register `reg`: CMD presents the word `v[7:0]` to the sequencer (10_state.md R23), which
is refused when it is no operation (30_encoding.md R67); every other register ignores writes (R22). -/
def hostWrite (reg : Nat) (v : HostWord) (s : State) : Result :=
  if reg = 0 then
    match decodeWord (v.extractLsb' 0 8) with
    | .ok i => exec i s
    | .error _ => .next s.refuse
  else .next s

/-- A register guarded by a valid flag: its value while the flag is 1, a free value otherwise (10_state.md R22). -/
def guardedField {w : Nat} (valid : Bool) (v : BitVec w) (free : Nat → BitVec w) (draws : Nat) : HostWord :=
  (if valid then v else free draws).setWidth 32

/-- What a read of host register `reg` returns (10_state.md R21, R22). CMD and the reserved numbers read 0. -/
def State.registerImage (s : State) : Nat → HostWord
  | 1 => s.statusImage
  | 2 => s.errImage
  | 3 => s.pinImage
  | 4 => guardedField s.flags.resultValid s.humField Config.freeResult s.readDraws
  | 5 => guardedField s.flags.resultValid s.tempField Config.freeResult s.readDraws
  | 8 => guardedField s.flags.readingValid s.bytes[0] Config.freeByte s.readDraws
  | 9 => guardedField s.flags.readingValid s.bytes[1] Config.freeByte s.readDraws
  | 10 => guardedField s.flags.readingValid s.bytes[2] Config.freeByte s.readDraws
  | 11 => guardedField s.flags.readingValid s.bytes[3] Config.freeByte s.readDraws
  | 12 => guardedField s.flags.readingValid s.bytes[4] Config.freeByte s.readDraws
  | _ => 0

/-- A read of host register `reg`: its value goes to the host and the block is unchanged (10_state.md R22). The
counter of read draws moves on, so that the next unspecified read is another draw (log 7). -/
def State.hostRead (reg : Nat) (s : State) : State :=
  { s with hostData := s.registerImage reg, readDraws := s.readDraws + 1 }

/-- What an input does when it lands. -/
def applyInput (i : Input) (s : State) : Result :=
  match i with
  | .write reg v => hostWrite reg v s
  | .read reg => .next (s.hostRead reg)
  | .reset initOk => .next (s.resetBlock initOk)

/-- An input lands in this step when its count has run out, or, if it waits for `BUSY = 0`, when that holds (log 8). -/
def Arrival.due (busy : Bool) : Arrival → Bool
  | .after n => n == 0
  | .whenIdle => !busy

/-- One sequencer step passed: the next event's count goes down by one (log 8). -/
def Arrival.tick : Arrival → Arrival
  | .after n => .after (n - 1)
  | .whenIdle => .whenIdle

/-- The host events after a step of the sequencer. -/
def tickInputs : List HostEvent → List HostEvent
  | [] => []
  | e :: rest => { e with arrival := e.arrival.tick } :: rest

/-- One step of the machine with parameters `p`: the next host event if it is due, else one step of the sequencer
(20_memory.md R51: the host acts between two steps of the sequencer). -/
def stepWith (p : Params) (s : State) : Result :=
  match s.inputs with
  | [] => sequencerStep p s
  | e :: rest =>
    if e.arrival.due s.busy then applyInput e.input { s with inputs := rest }
    else sequencerStep p { s with inputs := tickInputs s.inputs }

/-- The host presents the word of `nbits` bits `w` on CMD in the very next step. -/
def State.presentWord (nbits w : Nat) (s : State) : State :=
  { s with inputs := ⟨.after 0, .write 0 (BitVec.ofNat 32 (w % 2 ^ nbits))⟩ :: s.inputs }

end Sys2Proof.Machine
end

