-- ==== Sys2Proof/Machine/Step.lean ====
section
/-! DEFINITION. The machine step, and the state whose next step runs a given word. -/

namespace Sys2Proof.Machine

/-- One step of this machine, whose parameters are the open ones of `Config.params` (00_scope.md R5). -/
def step (s : State) : Host.Outcome State Fault Refusal := stepWith Config.params s

/-- `s` with the host about to write the word `w` of `nbits` bits to CMD: the next step presents it. The block has no
instruction memory (10_state.md R15), so this is how an instruction comes to run (log 8). -/
def State.withFetchWord (s : State) (nbits w : Nat) : State := s.presentWord nbits w

end Sys2Proof.Machine
end

