-- ==== Sys2Proof/Safety.lean ====
section
/-! DEFINITION. The terms claims are stated in: when a word may be accepted, runs of the machine, what a decode
computes as the spec writes it, the line that shows given counts, and the invariant of every reachable state. -/

namespace Sys2Proof.Machine

/-- The port is open: `INIT_FAIL = 0` and `ST = Idle` (30_encoding.md R66 (a), (b)). -/
def State.Admits (s : State) : Prop := s.flags.initFail = false ∧ s.pos.st = .idle

/-- `k` steps of the machine with parameters `p`, stopping at the first fault or refusal. -/
def runWith (p : Params) : Nat → State → Result
  | 0, s => .next s
  | k + 1, s =>
    match stepWith p s with
    | .next t => runWith p k t
    | .fault r => .fault r
    | .refused r => .refused r

/-- Issue an operation and run `k` further steps. -/
def issueThenRun (p : Params) (i : Instr) (k : Nat) (s : State) : Result :=
  match exec i s with
  | .next t => runWith p k t
  | .fault r => .fault r
  | .refused r => .refused r

/-! ### One sample, written out -/

/-- `s` after one sample whose poll answered `res` (40_datapin.md R80, R81; 20_memory.md R42, R45). -/
def State.sampled (s : State) (res : Bool) : State :=
  { s with
    pin := ⟨s.pin.dir, s.pin.out, res⟩
    history := s.history ++ [.sample s.nextLevel]
    line := s.line.tail
    lineDraws := if s.line = [] then s.lineDraws + 1 else s.lineDraws }

/-! ### A decode, as the spec writes it -/

/-- The low count of slot `k + 1`, `x[2*(k+1)]` (42_frame_decoder.md R112). -/
def lowCount (x : Vector Nat 82) (k : Fin 40) : Nat := x[2 * (k.val + 1)]'(by omega)

/-- The high count of slot `k + 1`, `x[2*(k+1) + 1]` (42_frame_decoder.md R113). -/
def highCount (x : Vector Nat 82) (k : Fin 40) : Nat := x[2 * (k.val + 1) + 1]'(by omega)

/-- `SUMLOW <- x[2] + x[4] + ... + x[80]` (42_frame_decoder.md R112). -/
def specSumLow (x : Vector Nat 82) : Nat := ∑ k : Fin 40, lowCount x k

/-- `bit_k <- (x[2*(k+1) + 1] >= THRESH) ? 1 : 0` (42_frame_decoder.md R113). -/
def specBit (x : Vector Nat 82) (k : Fin 40) : Nat := if highCount x k ≥ specSumLow x / 40 then 1 else 0

/-- `b[j] <- bit_(8j) * 128 + ... + bit_(8j+7)` (42_frame_decoder.md R114). -/
def specByte (x : Vector Nat 82) (j : Fin 5) : Byte :=
  BitVec.ofNat 8 (∑ i : Fin 8, specBit x ⟨8 * j.val + i.val, by omega⟩ * 2 ^ (7 - i.val))

/-- The five bytes of a capture. -/
def specBytes (x : Vector Nat 82) : Vector Byte 5 :=
  #v[specByte x 0, specByte x 1, specByte x 2, specByte x 3, specByte x 4]

/-- `(b[0] + b[1] + b[2] + b[3]) & 0xFF` (10_state.md R12). -/
def specChecksum (q : Vector Byte 5) : Byte :=
  BitVec.ofNat 8 ((q[0].toNat + q[1].toNat + q[2].toNat + q[3].toNat) % 256)

/-- The counts spell the quintet: data bit `8*j + i` is decided as bit `7 - i` of byte `j` (20_memory.md R46). -/
def Spells (x : Vector Nat 82) (q : Vector Byte 5) : Prop :=
  ∀ (j : Fin 5) (i : Fin 8), specBit x ⟨8 * j.val + i.val, by omega⟩ = (q[j].getLsbD (7 - i.val)).toNat

/-! ### The line that shows given counts (41_pulse_capture.md R100) -/

/-- The samples of slot `s`: `x[2s]` low ones and the high one that ends the low loop, `x[2s+1]` high ones and the
low one that ends the high loop. -/
def slotSamples (x : Vector Nat 82) (s : Fin 41) : List Level :=
  List.replicate (x[2 * s.val]'(by omega)) .low ++ .high ::
    (List.replicate (x[2 * s.val + 1]'(by omega)) .high ++ [.low])

/-- The samples of a whole capture that fills the counters `x`. -/
def frameSamples (x : Vector Nat 82) : List Level := (List.finRange 41).flatMap (slotSamples x)

/-! ### The wake sequence's events and READ's expansion -/

/-- The events of the wake sequence (20_memory.md R45, 44_sensor_session.md R144). -/
def wakeEvents : List Event :=
  [.mode .output, .drive .high, .hold .wakeHigh, .drive .low, .hold .startLow, .drive .high, .hold .ack, .mode .input]

/-- The same without the holds: the events of the five SET operations of READ's expansion (44_sensor_session.md
R151). -/
def wakeEventsWithoutHolds : List Event := [.mode .output, .drive .high, .drive .low, .drive .high, .mode .input]

/-- A line of a host program: the operation's word, written to CMD when `BUSY = 0` (30_encoding.md R70). -/
def programLine (i : Instr) : HostEvent := ⟨.whenIdle, .write 0 ((encode i).setWidth 32)⟩

/-- READ's expansion as a host program (44_sensor_session.md R151). -/
def readExpansion : List HostEvent :=
  [.setMode .output, .setHigh, .setLow, .setHigh, .setMode .input, .capture, .decode, .convert].map programLine

/-! ### The invariant -/

/-- The three wake states. -/
def SessionState.waking : SessionState → Bool
  | .wakeHigh | .startLow | .ackWait => true
  | _ => false

/-- `CUR_OP` fits `ST` (44_sensor_session.md R152). -/
def Position.opFits (q : Position) : Bool :=
  match q.st with
  | .idle | .initFailed => q.curOp == .none
  | .wakeHigh | .startLow | .ackWait | .done => q.curOp == .read
  | .capturing => q.curOp == .capture || q.curOp == .read
  | .decoding => q.curOp == .decode || q.curOp == .read

/-- No valid flag is 1. -/
def Flags.NoneValid (f : Flags) : Prop := f.countsValid = false ∧ f.readingValid = false ∧ f.resultValid = false

/-- The outcome of a decode stands: a Reading, the result converted from one, or a Checksum error. It cannot hold of a
block that has not decoded since reset, whose registers are unspecified (10_state.md R26). -/
def State.Decoded (s : State) : Prop :=
  s.flags.readingValid = true ∨ s.flags.resultValid = true ∨ s.err.kind = .checksum

/-- What holds of every state the machine reaches from reset, with parameters `p`. -/
structure Inv (p : Params) (s : State) : Prop where
  /-- `CUR_OP` fits `ST`; in particular it is None in Idle (44_sensor_session.md R150, R152). -/
  op_fits : s.pos.opFits = true
  /-- `UPC` and `ST` are a row of the micro-step table while waking (44_sensor_session.md R144). -/
  upc_row : s.pos.st.waking = true → (microStep s.pos.upc).st = s.pos.st
  /-- `UPC` is 0 otherwise (44_sensor_session.md R144, R150). -/
  upc_zero : s.pos.st.waking = false → s.pos.upc = 0
  /-- `SLOT` and `PHASE` are 0 outside Capturing (44_sensor_session.md R150, 95_test_vectors.md V-ST-5, log 10). -/
  slot_zero : s.pos.st ≠ .capturing → s.pos.slot = 0 ∧ s.pos.phase = .low
  /-- `INIT_FAIL` is 1 exactly in InitFailed (70_reset_and_hazards.md R191). -/
  init_flag : s.flags.initFail = true ↔ s.pos.st = .initFailed
  /-- The kind Initialization is there exactly in InitFailed (60_exceptions.md R161). -/
  init_kind : s.err.kind = .initialization ↔ s.pos.st = .initFailed
  /-- The pin is an input in InitFailed (70_reset_and_hazards.md R192). -/
  init_pin : s.pos.st = .initFailed → s.pin.dir = .input
  /-- No error is recorded while an operation runs (10_state.md R28). -/
  busy_err : s.busy = true → s.err.kind = .none
  /-- Nothing is valid while waking or capturing (10_state.md R28). -/
  early_flags : s.pos.st.waking = true ∨ s.pos.st = .capturing → s.flags.NoneValid
  /-- A decode has its counts (30_encoding.md R66 (d), 41_pulse_capture.md R94). -/
  decoding_flags : s.pos.st = .decoding → s.flags.countsValid = true
  /-- The conversion of READ has its Reading (42_frame_decoder.md R117). -/
  done_flags : s.pos.st = .done → s.flags.readingValid = true
  /-- At most one of the counts, the Reading and the result is valid (10_state.md R28, 42_frame_decoder.md R119,
  43_reading.md R130). -/
  one_valid : (s.flags.countsValid = true → s.flags.readingValid = false ∧ s.flags.resultValid = false) ∧
    (s.flags.readingValid = true → s.flags.resultValid = false)
  /-- With an error nothing is readable (60_exceptions.md R165). -/
  err_flags : s.err.kind ≠ .none → s.flags.NoneValid
  /-- `EXPECTED` and `COMPUTED` are 0 unless the kind is Checksum (10_state.md R20). -/
  err_zero : s.err.kind ≠ .checksum → s.err.expected = 0 ∧ s.err.computed = 0
  /-- A Checksum error carries two different bytes (42_frame_decoder.md R115). -/
  err_differ : s.err.kind = .checksum → s.err.expected ≠ s.err.computed
  /-- After a capture that timed out a counter holds at most `MAX_POLL + 1` (10_state.md R10). -/
  counts_le : s.err.kind = .readTimeout → ∀ i : Fin 82, s.counts[i] ≤ p.maxPoll + 1
  /-- The counters of a capture that runs or has completed, and may have been decoded since, are at most `MAX_POLL`
  (41_pulse_capture.md R95). -/
  counts_ok : s.pos.st = .capturing ∨ s.flags.countsValid = true ∨ s.Decoded → ∀ i : Fin 82, s.counts[i] ≤ p.maxPoll
  /-- After a decode `SUMLOW <= 40 * MAX_POLL` (42_frame_decoder.md R122). -/
  sum_le : s.Decoded → s.sumLow ≤ 40 * p.maxPoll
  /-- After a decode `THRESH <= MAX_POLL` (42_frame_decoder.md R112). -/
  thresh_le : s.Decoded → s.thresh ≤ p.maxPoll
  /-- A Reading satisfies the checksum relation (10_state.md R12). -/
  reading_ok : s.flags.readingValid = true → s.bytes[4] = specChecksum s.bytes
  /-- From its first level on READ's wake sequence drives the line (44_sensor_session.md R141 to R143). -/
  wake_pin : s.pos.st.waking = true → s.pos.upc ≠ 0 → s.pin.dir = .output
  /-- From micro-step 6 on a READ's level is high (44_sensor_session.md R143). -/
  ack_pin : s.pos.st.waking = true → s.pos.upc = 6 ∨ s.pos.upc = 7 → s.pin.out = .high
  /-- After the wake sequence a READ has released the line, its level high (44_sensor_session.md R153). -/
  read_pin : s.pos.curOp = .read → s.pos.st.waking = false → s.pin.dir = .input ∧ s.pin.out = .high

end Sys2Proof.Machine
end

