-- ==== Sys2Proof/Certificates/Slice0/Obligations.lean ====
section
/-! DEFINITION. The statements for the provers. Each docstring says which rule of spec/ it formalises; where a clause
rests on a choice of the model, it names the log entry. -/

open Sys2Proof Sys2Proof.Machine

/-! ## Words and operations -/

/-- 30_encoding.md R65: the assigned words are exactly the ten of the table, each the word of its row. -/
def Obligations.AssignedWordsAreTheTableRows : Prop :=
  ∀ w : Byte,
    (decodeWord w = .ok .isLow ↔ w &&& 0xFF = 0x00) ∧
    (decodeWord w = .ok .isHigh ↔ w &&& 0xFF = 0x04) ∧
    (decodeWord w = .ok .setLow ↔ w &&& 0xFF = 0x08) ∧
    (decodeWord w = .ok .setHigh ↔ w &&& 0xFF = 0x0C) ∧
    ((∃ d, decodeWord w = .ok (.setMode d)) ↔ w &&& 0xFE = 0x10) ∧
    (decodeWord w = .ok (.setMode .input) ↔ w = 0x10) ∧
    (decodeWord w = .ok (.setMode .output) ↔ w = 0x11) ∧
    (decodeWord w = .ok .capture ↔ w &&& 0xFF = 0x20) ∧
    (decodeWord w = .ok .decode ↔ w &&& 0xFF = 0x40) ∧
    (decodeWord w = .ok .convert ↔ w &&& 0xFF = 0x60) ∧
    (decodeWord w = .ok .read ↔ w &&& 0xFF = 0x80) ∧
    ((∃ i, decodeWord w = .ok i) ↔
      w ∈ [(0x00 : Byte), 0x04, 0x08, 0x0C, 0x10, 0x11, 0x20, 0x40, 0x60, 0x80])

/-- Decoding and encoding agree, in both directions, for every operation and every word (30_encoding.md section 3). -/
def Obligations.DecodeAndEncodeAgree : Prop :=
  (∀ i : Instr, i.wellFormed = true ∧ decodeWord (encode i) = .ok i) ∧
  (∀ (w : Byte) (i : Instr), decodeWord w = .ok i → encode i = w)

/-- 30_encoding.md R67: the 246 reserved words are those of its four classes, the decoder is total, and a reserved
word sets `CMD_REFUSED` and changes nothing else. -/
def Obligations.ReservedWordsAreRefused : Prop :=
  (∀ w : Byte,
    let unit := w.toNat / 32
    let func := w.toNat / 4 % 8
    let z := w.toNat / 2 % 2
    let d := w.toNat % 2
    (∃ r, decodeWord w = .error r) ↔
      z = 1 ∨ (d = 1 ∧ ¬ (unit = 0 ∧ func = 4)) ∨ 5 ≤ unit ∨ (unit = 0 ∧ 5 ≤ func) ∨
        (1 ≤ unit ∧ unit ≤ 4 ∧ 1 ≤ func)) ∧
  ((List.range 256).filter fun n => !(decodeWord (BitVec.ofNat 8 n)).isOk).length = 246 ∧
  (∀ (s : State) (v : HostWord) (r : Reserved), decodeWord (v.extractLsb' 0 8) = .error r →
    hostWrite 0 v s = .next { s with flags := { s.flags with cmdRefused := true } })

/-- 30_encoding.md R66: a word is accepted exactly under (a) to (e); accepted, it is executed and `CMD_REFUSED` is 0;
refused, `CMD_REFUSED` is 1 and nothing else changes. -/
def Obligations.WordAcceptedExactlyUnderAdmission : Prop :=
  ∀ (s : State) (v : HostWord),
    let w := v.extractLsb' 0 8
    let admitted := s.flags.initFail = false ∧ s.busy = false ∧ s.pos.st = .idle ∧
      ∃ i, decodeWord w = .ok i ∧ (i = .decode → s.flags.countsValid = true) ∧
        (i = .convert → s.flags.readingValid = true)
    (admitted → ∃ i t, decodeWord w = .ok i ∧ hostWrite 0 v s = exec i s ∧ exec i s = .next t ∧
      t.flags.cmdRefused = false) ∧
    (¬ admitted → hostWrite 0 v s = .next { s with flags := { s.flags with cmdRefused := true } })

/-- A due host event lands: the step is what the event does, the event used up. When it is a write of an operation's
word to CMD, the step is `exec` of that operation; in particular after `withFetchWord` (10_state.md section 7; the form
of the events is log 8). -/
def Obligations.StepRunsThePresentedOperation : Prop :=
  (∀ (p : Params) (s : State) (e : HostEvent) (rest : List HostEvent),
    s.inputs = e :: rest → e.arrival.due s.busy = true →
    stepWith p s = applyInput e.input { s with inputs := rest }) ∧
  (∀ (p : Params) (s : State) (a : Arrival) (v : HostWord) (rest : List HostEvent) (i : Instr),
    s.inputs = ⟨a, .write 0 v⟩ :: rest → a.due s.busy = true → decodeWord (v.extractLsb' 0 8) = .ok i →
    stepWith p s = exec i { s with inputs := rest }) ∧
  (∀ (s : State) (i : Instr), step (s.withFetchWord 8 (encode i).toNat) = exec i s)

/-- A step at which no host event is due is the sequencer's step, the events' count gone down; with none pending it is
the sequencer's step of the state as it is (20_memory.md section 7; the form of the events is log 8). -/
def Obligations.StepIsTheSequencersWhenNoEventIsDue : Prop :=
  ∀ (p : Params) (s : State),
    (s.inputs = [] → stepWith p s = sequencerStep p s) ∧
    (∀ (n : Nat) (i : Input) (rest : List HostEvent), s.inputs = ⟨.after (n + 1), i⟩ :: rest →
      stepWith p s = sequencerStep p { s with inputs := ⟨.after n, i⟩ :: rest }) ∧
    (∀ (i : Input) (rest : List HostEvent), s.inputs = ⟨.whenIdle, i⟩ :: rest → s.busy = true →
      stepWith p s = sequencerStep p s)

/-! ## DataPin -/

/-- 40_datapin.md R80: IS_LOW, word `0x00`, takes one sample and answers whether it is low; nothing else changes. -/
def Obligations.IsLowAnswersItsOwnSample : Prop :=
  decodeWord 0x00 = .ok .isLow ∧
  ∀ s : State, s.Admits → exec .isLow s =
    .next { s.sampled (decide (s.nextLevel = .low)) with flags := { s.flags with cmdRefused := false } }

/-- 40_datapin.md R81: IS_HIGH, word `0x04`, takes one sample and answers whether it is high; nothing else changes. -/
def Obligations.IsHighAnswersItsOwnSample : Prop :=
  decodeWord 0x04 = .ok .isHigh ∧
  ∀ s : State, s.Admits → exec .isHigh s =
    .next { s.sampled (decide (s.nextLevel = .high)) with flags := { s.flags with cmdRefused := false } }

/-- 40_datapin.md R86: on one sample the two polls are complements; two polls in a row answer on two samples. -/
def Obligations.PollsComplementOnOneSampleIndependentAcross : Prop :=
  (∀ s : State, s.Admits → ∃ t u, exec .isLow s = .next t ∧ exec .isHigh s = .next u ∧ t.pin.res = !u.pin.res) ∧
  (∀ (s : State) (v w : Level) (rest : List Level), s.Admits → s.line = v :: w :: rest →
    ∃ t u, exec .isLow s = .next t ∧ exec .isHigh t = .next u ∧
      t.pin.res = decide (v = .low) ∧ u.pin.res = decide (w = .high) ∧ u.line = rest ∧
      u.history = s.history ++ [.sample v, .sample w])

/-- 40_datapin.md R82: SET_LOW, word `0x08`, stores the level and records it; the line is driven low exactly when the
cell is an output. -/
def Obligations.SetLowStoresAndDrivesTheLevel : Prop :=
  decodeWord 0x08 = .ok .setLow ∧
  ∀ s : State, s.Admits → ∃ t, exec .setLow s = .next t ∧
    t = { s with
      pin := ⟨s.pin.dir, .low, s.pin.res⟩
      history := s.history ++ [.drive .low]
      flags := { s.flags with cmdRefused := false } } ∧
    t.driven = if s.pin.dir = .output then some .low else none

/-- 40_datapin.md R83: SET_HIGH, word `0x0C`, stores the level and records it; the line is driven high exactly when
the cell is an output. -/
def Obligations.SetHighStoresAndDrivesTheLevel : Prop :=
  decodeWord 0x0C = .ok .setHigh ∧
  ∀ s : State, s.Admits → ∃ t, exec .setHigh s = .next t ∧
    t = { s with
      pin := ⟨s.pin.dir, .high, s.pin.res⟩
      history := s.history ++ [.drive .high]
      flags := { s.flags with cmdRefused := false } } ∧
    t.driven = if s.pin.dir = .output then some .high else none

/-- 40_datapin.md R84: SET_MODE, words `0x10` and `0x11`, sets the direction and records it; `PIN_OUT` is unchanged
and, as an output, the cell drives it at once. -/
def Obligations.SetModeSwitchesTheDirection : Prop :=
  decodeWord 0x10 = .ok (.setMode .input) ∧ decodeWord 0x11 = .ok (.setMode .output) ∧
  ∀ (d : Direction) (s : State), s.Admits → ∃ t, exec (.setMode d) s = .next t ∧
    t = { s with
      pin := ⟨d, s.pin.out, s.pin.res⟩
      history := s.history ++ [.mode d]
      flags := { s.flags with cmdRefused := false } } ∧
    t.driven = if d = .output then some s.pin.out else none

/-! ## The composites and CONVERT, the step that accepts them -/

/-- CAPTURE accepted: the cascade, `CUR_OP`, and capture entry, with no pin event (41_pulse_capture.md section 1). -/
def Obligations.CaptureAcceptedEntersWithZeroCounters : Prop :=
  decodeWord 0x20 = .ok .capture ∧
  ∀ s : State, s.Admits → exec .capture s = .next { s with
    flags := ⟨s.flags.initFail, false, false, false, false⟩
    err := ⟨.none, 0, 0⟩
    counts := Vector.replicate 82 0
    pos := ⟨.capturing, s.pos.upc, 0, .low, .capture⟩ }

/-- DECODE accepted, with counts: the cascade, `CUR_OP` and `ST`; without counts it is refused (42_frame_decoder.md
section 1). -/
def Obligations.DecodeAcceptedOnlyWithCounts : Prop :=
  decodeWord 0x40 = .ok .decode ∧
  ∀ s : State, s.Admits →
    (s.flags.countsValid = true → exec .decode s = .next { s with
      flags := ⟨s.flags.initFail, true, false, false, false⟩
      err := ⟨.none, 0, 0⟩
      pos := ⟨.decoding, s.pos.upc, s.pos.slot, s.pos.phase, .decode⟩ }) ∧
    (s.flags.countsValid = false → exec .decode s = .next { s with flags := { s.flags with cmdRefused := true } })

/-- 43_reading.md R130: CONVERT, in one step, with a Reading; a second one is refused. In Done the same body is the
step, without the cascade. -/
def Obligations.ConvertPublishesTheReadingOnce : Prop :=
  decodeWord 0x60 = .ok .convert ∧
  ∀ s : State, s.Admits →
    (s.flags.readingValid = true → ∃ t, exec .convert s = .next t ∧
      t = { s with
        flags := ⟨s.flags.initFail, s.flags.countsValid, false, true, false⟩
        err := ⟨.none, 0, 0⟩
        result := t.result } ∧
      t.result.humRaw.toNat = s.bytes[0].toNat * 256 + s.bytes[1].toNat ∧
      t.result.tempNeg = s.bytes[2].getLsbD 7 ∧
      t.result.tempMag.toNat = (s.bytes[2].toNat &&& 0x7F) * 256 + s.bytes[3].toNat ∧
      exec .convert t = .next { t with flags := { t.flags with cmdRefused := true } }) ∧
    (s.flags.readingValid = false → exec .convert s = .next { s with flags := { s.flags with cmdRefused := true } }) ∧
    (∀ (p : Params) (u : State), u.pos.st = .done → ∃ t, sequencerStep p u = .next t ∧
      t.flags = ⟨u.flags.initFail, u.flags.countsValid, false, true, u.flags.cmdRefused⟩ ∧ t.err = u.err ∧
      t.result.humRaw.toNat = u.bytes[0].toNat * 256 + u.bytes[1].toNat ∧
      t.result.tempNeg = u.bytes[2].getLsbD 7 ∧
      t.result.tempMag.toNat = (u.bytes[2].toNat &&& 0x7F) * 256 + u.bytes[3].toNat)

/-- READ accepted: the cascade, `CUR_OP`, and the first micro-step next (44_sensor_session.md section 1). -/
def Obligations.ReadAcceptedStartsTheWakeSequence : Prop :=
  decodeWord 0x80 = .ok .read ∧
  ∀ s : State, s.Admits → exec .read s = .next { s with
    flags := ⟨s.flags.initFail, false, false, false, false⟩
    err := ⟨.none, 0, 0⟩
    pos := ⟨.wakeHigh, 0, s.pos.slot, s.pos.phase, .read⟩ }

/-- 10_state.md R28: the invalidation cascade, operation by operation, at the step that accepts it; the five DataPin
operations clear none of the three flags and leave ERR alone. -/
def Obligations.InvalidationCascadeByOperation : Prop :=
  ∀ s : State, s.Admits →
    (∀ i, i = .capture ∨ i = .read → ∃ t, exec i s = .next t ∧
      t.flags.countsValid = false ∧ t.flags.readingValid = false ∧ t.flags.resultValid = false ∧
      t.err = ⟨.none, 0, 0⟩) ∧
    (s.flags.countsValid = true → ∃ t, exec .decode s = .next t ∧
      t.flags.countsValid = s.flags.countsValid ∧ t.flags.readingValid = false ∧ t.flags.resultValid = false ∧
      t.err = ⟨.none, 0, 0⟩) ∧
    (s.flags.readingValid = true → ∃ t, exec .convert s = .next t ∧
      t.flags.countsValid = s.flags.countsValid ∧ t.flags.resultValid = true ∧ t.err = ⟨.none, 0, 0⟩) ∧
    (∀ i, i ∈ [Instr.isLow, .isHigh, .setLow, .setHigh, .setMode .input, .setMode .output] →
      ∃ t, exec i s = .next t ∧ t.flags.countsValid = s.flags.countsValid ∧
        t.flags.readingValid = s.flags.readingValid ∧ t.flags.resultValid = s.flags.resultValid ∧ t.err = s.err)

/-! ## The wake sequence -/

/-- 44_sensor_session.md R144: the eight micro-steps, each with its event, its pin effect and the next `(ST, UPC)`;
micro-step 7 enters the capture in the same step. -/
def Obligations.MicroStepsFollowTheTable : Prop :=
  ∀ (p : Params) (s : State),
    (s.pos.st = .wakeHigh → s.pos.upc = 0 → sequencerStep p s = .next { s with
      pin := ⟨.output, s.pin.out, s.pin.res⟩, history := s.history ++ [.mode .output]
      pos := ⟨.wakeHigh, 1, s.pos.slot, s.pos.phase, s.pos.curOp⟩ }) ∧
    (s.pos.st = .wakeHigh → s.pos.upc = 1 → sequencerStep p s = .next { s with
      pin := ⟨s.pin.dir, .high, s.pin.res⟩, history := s.history ++ [.drive .high]
      pos := ⟨.wakeHigh, 2, s.pos.slot, s.pos.phase, s.pos.curOp⟩ }) ∧
    (s.pos.st = .wakeHigh → s.pos.upc = 2 → sequencerStep p s = .next { s with
      history := s.history ++ [.hold .wakeHigh]
      pos := ⟨.startLow, 3, s.pos.slot, s.pos.phase, s.pos.curOp⟩ }) ∧
    (s.pos.st = .startLow → s.pos.upc = 3 → sequencerStep p s = .next { s with
      pin := ⟨s.pin.dir, .low, s.pin.res⟩, history := s.history ++ [.drive .low]
      pos := ⟨.startLow, 4, s.pos.slot, s.pos.phase, s.pos.curOp⟩ }) ∧
    (s.pos.st = .startLow → s.pos.upc = 4 → sequencerStep p s = .next { s with
      history := s.history ++ [.hold .startLow]
      pos := ⟨.ackWait, 5, s.pos.slot, s.pos.phase, s.pos.curOp⟩ }) ∧
    (s.pos.st = .ackWait → s.pos.upc = 5 → sequencerStep p s = .next { s with
      pin := ⟨s.pin.dir, .high, s.pin.res⟩, history := s.history ++ [.drive .high]
      pos := ⟨.ackWait, 6, s.pos.slot, s.pos.phase, s.pos.curOp⟩ }) ∧
    (s.pos.st = .ackWait → s.pos.upc = 6 → sequencerStep p s = .next { s with
      history := s.history ++ [.hold .ack]
      pos := ⟨.ackWait, 7, s.pos.slot, s.pos.phase, s.pos.curOp⟩ }) ∧
    (s.pos.st = .ackWait → s.pos.upc = 7 → sequencerStep p s = .next { s with
      pin := ⟨.input, s.pin.out, s.pin.res⟩, history := s.history ++ [.mode .input]
      counts := Vector.replicate 82 0
      pos := ⟨.capturing, 0, 0, .low, s.pos.curOp⟩ })

/-- 44_sensor_session.md R141, R142, R143: an accepted READ, undisturbed by reset, is after eight steps at the first
poll, its eight events on the line in order, the pin released and `PIN_OUT` 1; on the way the cell drives the level
`PIN_OUT` had, high, low and high, and then nothing; the holds' parameters keep their bounds. -/
def Obligations.ReadDrivesTheWakeSequence : Prop :=
  (10000 ≤ Config.params.tWakeHigh ∧ 1000 ≤ Config.params.tStartLow ∧
    20 ≤ Config.params.tAck ∧ Config.params.tAck ≤ 40) ∧
  ∀ (p : Params) (s : State), s.Admits → s.inputs = [] →
    issueThenRun p .read 8 s = .next { s with
      pin := ⟨.input, .high, s.pin.res⟩
      flags := ⟨false, false, false, false, false⟩
      err := ⟨.none, 0, 0⟩
      counts := Vector.replicate 82 0
      history := s.history ++ [.mode .output, .drive .high, .hold .wakeHigh, .drive .low, .hold .startLow,
        .drive .high, .hold .ack, .mode .input]
      pos := ⟨.capturing, 0, 0, .low, .read⟩ } ∧
    ∀ j, j ≤ 8 → ∃ u, issueThenRun p .read j s = .next u ∧ u.busy = true ∧
      [s.driven, some s.pin.out, some .high, some .high, some .low, some .low, some .high, some .high, none][j]? =
        some u.driven

/-- 00_scope.md R5: the parameters of this machine keep the bounds of its table. That they are rationals on the
microsecond is the model's choice (log 3). -/
def Obligations.ParametersKeepTheirBounds : Prop := Config.params.Admissible

/-! ## The capture -/

/-- 41_pulse_capture.md R92: one low-phase poll, in its three outcomes. -/
def Obligations.LowPhasePollCountsOrHandsOver : Prop :=
  ∀ (p : Params) (s : State), s.pos.st = .capturing → s.pos.phase = .low →
    let i : Fin 82 := ⟨2 * s.pos.slot.val, by omega⟩
    (s.nextLevel = .low → s.counts[i] + 1 ≤ p.maxPoll →
      sequencerStep p s = .next { s.sampled true with counts := s.counts.set i (s.counts[i] + 1) }) ∧
    (s.nextLevel = .low → p.maxPoll < s.counts[i] + 1 →
      sequencerStep p s = .next { s.sampled true with
        counts := s.counts.set i (s.counts[i] + 1)
        err := ⟨.readTimeout, 0, 0⟩
        pos := ⟨.idle, 0, 0, .low, .none⟩ }) ∧
    (s.nextLevel = .high →
      sequencerStep p s = .next { s.sampled false with
        pos := ⟨.capturing, s.pos.upc, s.pos.slot, .high, s.pos.curOp⟩ })

/-- 41_pulse_capture.md R93, R94: one high-phase poll, in its outcomes; after slot 40 control leaves Capturing, to Idle
for a CAPTURE, to Decoding for a READ. -/
def Obligations.HighPhasePollCountsOrAdvances : Prop :=
  ∀ (p : Params) (s : State), s.pos.st = .capturing → s.pos.phase = .high →
    let i : Fin 82 := ⟨2 * s.pos.slot.val + 1, by omega⟩
    (s.nextLevel = .high → s.counts[i] + 1 ≤ p.maxPoll →
      sequencerStep p s = .next { s.sampled true with counts := s.counts.set i (s.counts[i] + 1) }) ∧
    (s.nextLevel = .high → p.maxPoll < s.counts[i] + 1 →
      sequencerStep p s = .next { s.sampled true with
        counts := s.counts.set i (s.counts[i] + 1)
        err := ⟨.readTimeout, 0, 0⟩
        pos := ⟨.idle, 0, 0, .low, .none⟩ }) ∧
    (s.nextLevel = .low → ∀ n : Fin 41, n.val = s.pos.slot.val + 1 →
      sequencerStep p s = .next { s.sampled false with
        pos := ⟨.capturing, s.pos.upc, n, .low, s.pos.curOp⟩ }) ∧
    (s.nextLevel = .low → s.pos.slot = 40 → s.pos.curOp = .capture →
      sequencerStep p s = .next { s.sampled false with
        flags := { s.flags with countsValid := true }
        pos := ⟨.idle, 0, 0, .low, .none⟩ }) ∧
    (s.nextLevel = .low → s.pos.slot = 40 → s.pos.curOp = .read → ∃ t, sequencerStep p s = .next t ∧
      t = { s.sampled false with flags := { s.flags with countsValid := true }, pos := t.pos } ∧
      t.pos.st = .decoding ∧ t.pos.curOp = .read)

/-- A line that stays at the level a loop waits out ends the capture with ReadTimeout when the loop's counter becomes
`MAX_POLL + 1`, in either phase of any slot, and not before (41_pulse_capture.md section 3; the samples to come as a list
are log 6). -/
def Obligations.StalledLoopTimesOut : Prop :=
  ∀ (p : Params) (s : State) (rest : List Level), s.pos.st = .capturing → s.inputs = [] →
    let lvl : Level := if s.pos.phase = .low then .low else .high
    let i : Fin 82 := if s.pos.phase = .low then ⟨2 * s.pos.slot.val, by omega⟩ else ⟨2 * s.pos.slot.val + 1, by omega⟩
    let n := p.maxPoll + 1 - s.counts[i]
    s.counts[i] ≤ p.maxPoll → s.line = List.replicate n lvl ++ rest →
    (∀ k, k < n → ∃ u, runWith p k s = .next u ∧ u.pos = s.pos ∧ u.counts[i] = s.counts[i] + k) ∧
    runWith p n s = .next { s with
      counts := s.counts.set i (p.maxPoll + 1)
      err := ⟨.readTimeout, 0, 0⟩
      pin := ⟨s.pin.dir, s.pin.out, true⟩
      line := rest
      history := s.history ++ List.replicate n (.sample lvl)
      pos := ⟨.idle, 0, 0, .low, .none⟩ }

/-- Every capture ends, whatever the line does, after at most `82 * (MAX_POLL + 1)` polls, and makes only polls until
it ends (41_pulse_capture.md section 4, termination). -/
def Obligations.EveryCaptureEnds : Prop :=
  ∀ (p : Params) (s : State), s.pos.st = .capturing → s.pos.slot = 0 → s.pos.phase = .low →
    s.pos.curOp = .capture ∨ s.pos.curOp = .read → s.counts = Vector.replicate 82 0 → s.inputs = [] →
    ∃ (k : Nat) (t : State) (samples : List Level), 1 ≤ k ∧ k ≤ 82 * (p.maxPoll + 1) ∧ runWith p k s = .next t ∧ t.pos.st ≠ .capturing ∧
      samples.length = k ∧ t.history = s.history ++ samples.map Event.sample ∧
      (∀ j, j < k → ∃ u, runWith p j s = .next u ∧ u.pos.st = .capturing) ∧
      (t.flags.countsValid = true ∨ t.err.kind = .readTimeout) ∧
      (∀ i : Fin 82, t.counts[i] ≤ p.maxPoll + 1) ∧
      (t.err.kind ≠ .readTimeout → ∀ i : Fin 82, t.counts[i] ≤ p.maxPoll)

/-- The run-length law: a line that shows the counts `x`, each at most `MAX_POLL`, fills the counters with exactly
them, in `82` plus their sum samples (41_pulse_capture.md section 4, run-length law; the samples to come as a list are
log 6). -/
def Obligations.CaptureCountsTheRuns : Prop :=
  ∀ (p : Params) (s : State) (x : Vector Nat 82) (rest : List Level),
    s.Admits → s.inputs = [] → (∀ i : Fin 82, x[i] ≤ p.maxPoll) → s.line = frameSamples x ++ rest →
    issueThenRun p .capture (82 + x.toList.sum) s = .next { s with
      counts := x
      pin := ⟨s.pin.dir, s.pin.out, false⟩
      flags := ⟨false, true, false, false, false⟩
      err := ⟨.none, 0, 0⟩
      line := rest
      history := s.history ++ (frameSamples x).map Event.sample
      pos := ⟨.idle, 0, 0, .low, .none⟩ }

/-! ## The decode -/

/-- 42_frame_decoder.md R113, R114, R115, R117, R119: the decode step computes the threshold, the forty bits and the
five bytes as the rules write them, whatever they are, and consumes the counts; it succeeds when byte 4 is the low 8
bits of the sum of the others, with `READING_VALID` 1 and control in Idle for a DECODE, in Done for a READ, and raises
Checksum with the two bytes otherwise. -/
def Obligations.DecodeStepFollowsItsFiveSteps : Prop :=
  ∀ (p : Params) (s : State), s.pos.st = .decoding →
    let b := specBytes s.counts
    (∀ t, sequencerStep p s = .next t → t.sumLow = specSumLow s.counts ∧ t.thresh = specSumLow s.counts / 40 ∧
      t.bytes = b ∧ t.flags.countsValid = false) ∧
    (b[4] ≠ specChecksum b → ∃ t, sequencerStep p s = .next t ∧ t.err = ⟨.checksum, b[4], specChecksum b⟩ ∧
      t.flags.readingValid = s.flags.readingValid ∧ t.pos = ⟨.idle, 0, 0, .low, .none⟩) ∧
    (b[4] = specChecksum b → s.pos.curOp = .decode → sequencerStep p s = .next { s with
      sumLow := specSumLow s.counts
      thresh := specSumLow s.counts / 40
      bytes := b
      flags := ⟨s.flags.initFail, false, true, s.flags.resultValid, s.flags.cmdRefused⟩
      pos := ⟨.idle, 0, 0, .low, .none⟩ }) ∧
    (b[4] = specChecksum b → s.pos.curOp = .read → sequencerStep p s = .next { s with
      sumLow := specSumLow s.counts
      thresh := specSumLow s.counts / 40
      bytes := b
      flags := ⟨s.flags.initFail, false, true, s.flags.resultValid, s.flags.cmdRefused⟩
      pos := ⟨.done, s.pos.upc, s.pos.slot, s.pos.phase, .read⟩ })

/-- 60_exceptions.md R164: a decode whose byte 4 differs from the low 8 bits of the sum of the others records exactly
those two bytes and ends in Idle with nothing readable. -/
def Obligations.ChecksumErrorCarriesBothBytes : Prop :=
  ∀ (p : Params) (s : State), s.pos.st = .decoding → s.flags.readingValid = false →
    let b := specBytes s.counts
    b[4] ≠ specChecksum b →
    sequencerStep p s = .next { s with
      sumLow := specSumLow s.counts
      thresh := specSumLow s.counts / 40
      bytes := b
      flags := ⟨s.flags.initFail, false, false, s.flags.resultValid, s.flags.cmdRefused⟩
      err := ⟨.checksum, b[4], specChecksum b⟩
      pos := ⟨.idle, 0, 0, .low, .none⟩ }

/-- 42_frame_decoder.md R123, the checksum round trip: what a successful decode leaves satisfies the checksum
relation, and any counts that spell a quintet satisfying it make the decode succeed with that quintet. -/
def Obligations.SpelledQuintetDecodesToItself : Prop :=
  (∀ (p : Params) (s t : State), s.pos.st = .decoding → s.flags.readingValid = false →
    sequencerStep p s = .next t → t.flags.readingValid = true → t.bytes[4] = specChecksum t.bytes) ∧
  (∀ (p : Params) (s : State) (q : Vector Byte 5), s.pos.st = .decoding →
    s.pos.curOp = .decode ∨ s.pos.curOp = .read → q[4] = specChecksum q → Spells s.counts q →
    ∃ t, sequencerStep p s = .next t ∧ t.flags.readingValid = true ∧ t.bytes = q)

/-- 20_memory.md R46: data bit `k`, decided from slot `k + 1`, is bit `7 - (k mod 8)` of byte `b[k div 8]`. -/
def Obligations.BitsArePackedMostSignificantFirst : Prop :=
  ∀ (p : Params) (s t : State), s.pos.st = .decoding → sequencerStep p s = .next t →
    ∀ k : Fin 40, (t.bytes[k.val / 8]'(by omega)).getLsbD (7 - k.val % 8) = decide (specBit s.counts k = 1)

/-- 42_frame_decoder.md R111: `x[0]` and `x[1]` have no effect on any output of a decode. -/
def Obligations.FirstPairIsDiscarded : Prop :=
  ∀ (p : Params) (s t : State) (a b : Nat), s.pos.st = .decoding → sequencerStep p s = .next t →
    sequencerStep p { s with counts := (s.counts.set 0 a).set 1 b } =
      .next { t with counts := (s.counts.set 0 a).set 1 b }

/-- 42_frame_decoder.md R112: the sum of the forty valid low counts and its truncating mean, and their bounds when the
counts are those of a completed capture. -/
def Obligations.ThresholdIsTheTruncatedMean : Prop :=
  ∀ (p : Params) (s t : State), s.pos.st = .decoding → sequencerStep p s = .next t →
    t.sumLow = ∑ k : Fin 40, lowCount s.counts k ∧
    40 * t.thresh ≤ t.sumLow ∧ t.sumLow < 40 * t.thresh + 40 ∧
    ((∀ i : Fin 82, s.counts[i] ≤ p.maxPoll) → t.sumLow ≤ 40 * p.maxPoll ∧ t.thresh ≤ p.maxPoll)

/-- Two corner cases: low counts summing to less than 40 give five bytes `FF` and a Checksum error `FF`, `FC`; high
counts all below the threshold give five bytes `00` and succeed (42_frame_decoder.md section 3). -/
def Obligations.DegenerateFramesDecodeAsTheSpecSays : Prop :=
  ∀ (p : Params) (s : State), s.pos.st = .decoding → s.pos.curOp = .decode ∨ s.pos.curOp = .read →
    (specSumLow s.counts < 40 → ∃ t, sequencerStep p s = .next t ∧ t.pos.st = .idle ∧
      t.bytes = #v[0xFF, 0xFF, 0xFF, 0xFF, 0xFF] ∧ t.err = ⟨.checksum, 0xFF, 0xFC⟩) ∧
    ((∀ k : Fin 40, highCount s.counts k < specSumLow s.counts / 40) → ∃ t, sequencerStep p s = .next t ∧
      t.bytes = #v[0, 0, 0, 0, 0] ∧ t.flags.readingValid = true ∧ t.err = s.err)

/-! ## The conversion -/

/-- 43_reading.md R131, R132: the conversion of any five bytes. -/
def Obligations.ConvertComputesTenths : Prop :=
  ∀ q : Vector Byte 5,
    (convert q).humRaw.toNat = q[0].toNat * 256 + q[1].toNat ∧
    (convert q).humidity = ((q[0].toNat * 256 + q[1].toNat : Nat) : ℚ) / 10 ∧
    (convert q).tempNeg = q[2].getLsbD 7 ∧
    (convert q).tempMag.toNat = (q[2].toNat &&& 0x7F) * 256 + q[3].toNat ∧
    ((convert q).tempNeg = false → (convert q).temperature = ((convert q).tempMag.toNat : ℚ) / 10) ∧
    ((convert q).tempNeg = true → (convert q).temperature = -(((convert q).tempMag.toNat : ℚ) / 10))

/-- 43_reading.md R134: no range check and no clamping: every humidity from 0.0 to 6553.5 and every temperature from
−3276.7 to +3276.7 comes out of some bytes as it stands, and nothing outside those ranges does. -/
def Obligations.ConvertReachesEveryResultUnclamped : Prop :=
  (∀ r : Results, ∃ q : Vector Byte 5, convert q = r) ∧
  (∀ q : Vector Byte 5, 0 ≤ (convert q).humidity ∧ (convert q).humidity ≤ 65535 / 10 ∧
    -(32767 / 10) ≤ (convert q).temperature ∧ (convert q).temperature ≤ 32767 / 10)

/-- 44_sensor_session.md R148, the step in Done: the body of CONVERT and the return to Idle; TEMP's sixteen bits are then
`b[2] : b[3]` and HUM's `b[0] : b[1]` (44_sensor_session.md section 3, 10_state.md section 7). -/
def Obligations.DoneStepPublishesAndReturns : Prop :=
  ∀ (p : Params) (s : State), s.pos.st = .done → ∃ t, sequencerStep p s = .next t ∧
    t = { s with
      result := convert s.bytes
      flags := ⟨s.flags.initFail, s.flags.countsValid, false, true, s.flags.cmdRefused⟩
      pos := ⟨.idle, 0, 0, .low, .none⟩ } ∧
    t.tempField = s.bytes[2] ++ s.bytes[3] ∧ t.humField = s.bytes[0] ++ s.bytes[1]

/-- 43_reading.md R135: the conversion does not read byte 4. -/
def Obligations.ConvertIgnoresTheChecksumByte : Prop :=
  ∀ (q : Vector Byte 5) (c : Byte), convert (q.set 4 c) = convert q

/-! ## The host's registers -/

/-- 10_state.md R21, the STATUS, ERR and PIN rows: every field at its bits, every other bit 0; and R17: `CUR_OP` reads
as the operation word while busy, as `0x00` otherwise. -/
def Obligations.StatusErrAndPinReadAsTheRegisterMapSays : Prop :=
  ∀ s : State,
    (let v := s.registerImage 1
     v.extractLsb' 0 1 = BitVec.ofBool s.busy ∧ v.extractLsb' 1 1 = BitVec.ofBool s.flags.initFail ∧
     v.extractLsb' 2 1 = BitVec.ofBool s.flags.countsValid ∧ v.extractLsb' 3 1 = BitVec.ofBool s.flags.readingValid ∧
     v.extractLsb' 4 1 = BitVec.ofBool s.flags.resultValid ∧ v.extractLsb' 5 1 = BitVec.ofBool s.flags.cmdRefused ∧
     v.extractLsb' 6 2 = 0 ∧
     (v.extractLsb' 8 3).toNat = (match s.pos.st with
       | .idle => 0
       | .wakeHigh => 1
       | .startLow => 2
       | .ackWait => 3
       | .capturing => 4
       | .decoding => 5
       | .done => 6
       | .initFailed => 7) ∧
     v.extractLsb' 11 1 = 0 ∧
     (v.extractLsb' 12 3).toNat = s.pos.upc.val ∧ v.extractLsb' 15 1 = 0 ∧
     (v.extractLsb' 16 6).toNat = s.pos.slot.val ∧
     v.extractLsb' 22 1 = (if s.pos.phase = .high then 1 else 0) ∧ v.extractLsb' 23 1 = 0 ∧
     v.extractLsb' 24 8 = (if s.busy then
       match s.pos.curOp with
       | .none => 0x00
       | .capture => encode .capture
       | .decode => encode .decode
       | .read => encode .read
       else 0x00)) ∧
    (let v := s.registerImage 2
     (v.extractLsb' 0 2).toNat = (match s.err.kind with
       | .none => 0
       | .initialization => 1
       | .readTimeout => 2
       | .checksum => 3) ∧
     v.extractLsb' 2 6 = 0 ∧ v.extractLsb' 8 8 = s.err.expected ∧
     v.extractLsb' 16 8 = s.err.computed ∧ v.extractLsb' 24 8 = 0) ∧
    (let v := s.registerImage 3
     v.extractLsb' 0 1 = (if s.pin.dir = .output then 1 else 0) ∧
     v.extractLsb' 1 1 = (if s.pin.out = .high then 1 else 0) ∧
     v.extractLsb' 2 1 = BitVec.ofBool s.pin.res ∧ v.extractLsb' 3 29 = 0)

/-- 10_state.md R22, what is readable: HUM, TEMP and DATA0 to DATA4 read their registers while their flag is 1, and
what they read while it is 0 does not depend on the registers; CMD and the reserved numbers read 0. That a read behind
a flag of 0 depends on the read number alone is the model's choice (log 7). -/
def Obligations.GuardedRegistersReadOnlyWhileValid : Prop :=
  (∀ s : State, s.flags.resultValid = true →
    s.registerImage 4 = s.result.humRaw.setWidth 32 ∧
    s.registerImage 5 = (BitVec.ofBool s.result.tempNeg ++ s.result.tempMag).setWidth 32) ∧
  (∀ s : State, s.flags.readingValid = true → ∀ j : Fin 5, s.registerImage (8 + j.val) = s.bytes[j].setWidth 32) ∧
  (∀ s t : State, s.flags.resultValid = false → t.flags.resultValid = false → s.readDraws = t.readDraws →
    s.registerImage 4 = t.registerImage 4 ∧ s.registerImage 5 = t.registerImage 5) ∧
  (∀ s t : State, s.flags.readingValid = false → t.flags.readingValid = false → s.readDraws = t.readDraws →
    ∀ j : Fin 5, s.registerImage (8 + j.val) = t.registerImage (8 + j.val)) ∧
  (∀ (s : State) (r : Nat), r = 0 ∨ r = 6 ∨ r = 7 ∨ 13 ≤ r → s.registerImage r = 0)

/-- 10_state.md R22, side effects: a read changes nothing of the block, and a write to any register but CMD has no
effect. That the value is kept for the host, and the count of draws, is the model's (log 7, log 9). -/
def Obligations.HostAccessesHaveNoSideEffect : Prop :=
  ∀ (p : Params) (s : State) (a : Arrival) (r : Nat) (rest : List HostEvent), a.due s.busy = true →
    (s.inputs = ⟨a, .read r⟩ :: rest → stepWith p s = .next { s with
      inputs := rest, hostData := s.registerImage r, readDraws := s.readDraws + 1 }) ∧
    (∀ v, r ≠ 0 → s.inputs = ⟨a, .write r v⟩ :: rest → stepWith p s = .next { s with inputs := rest })

/-- 60_exceptions.md R163: the codes and the labels of the error kinds. -/
def Obligations.ErrorKindsHaveTheirCodesAndLabels : Prop :=
  ErrKind.none.code = 0 ∧ ErrKind.initialization.code = 1 ∧ ErrKind.readTimeout.code = 2 ∧ ErrKind.checksum.code = 3 ∧
  ErrKind.none.label = none ∧ ErrKind.initialization.label = some "initialization" ∧
  ErrKind.readTimeout.label = some "timeout" ∧ ErrKind.checksum.label = some "checksum"

/-! ## Reset and InitFailed -/

/-- 70_reset_and_hazards.md R191, with the reset values of 10_state.md R26: a reset, in whatever state, leaves Idle or
InitFailed by `INIT_OK`, and every register the spec gives a reset value at it. -/
def Obligations.ResetAtAnyStepLeavesTheResetValues : Prop :=
  ∀ (s : State) (ok : Bool), ∃ t, applyInput (.reset ok) s = .next t ∧
    t.pos = ⟨if ok then .idle else .initFailed, 0, 0, .low, .none⟩ ∧
    t.pin = ⟨.input, .high, false⟩ ∧ t.flags = ⟨!ok, false, false, false, false⟩ ∧
    t.err = ⟨if ok then .none else .initialization, 0, 0⟩ ∧ t.busy = false

/-- The state after reset with the pin bound has the reset values; that `State.reset` is the one with `INIT_OK = 1` is
the model's choice (log 4), and so are the zeros of the unspecified registers, which this does not state. -/
def Obligations.ResetStateHasTheResetValues : Prop :=
  State.reset.pos = ⟨.idle, 0, 0, .low, .none⟩ ∧ State.reset.pin = ⟨.input, .high, false⟩ ∧
  State.reset.flags = ⟨false, false, false, false, false⟩ ∧ State.reset.err = ⟨.none, 0, 0⟩ ∧
  State.reset.busy = false ∧ State.reset.statusImage = 0x00000000 ∧ State.reset.errImage = 0x00000000 ∧
  State.reset.pinImage = 0x00000002 ∧ (State.resetWith false).statusImage = 0x00000702 ∧
  (State.resetWith false).errImage = 0x00000001 ∧ (State.resetWith false).pinImage = 0x00000002

/-- In InitFailed `BUSY` is 0, the line is not driven, every word is refused, and no machine step at which no reset is
due leaves the state or gives the block a pin event, a sample or a result (70_reset_and_hazards.md section 1). The
sequencer has no step there, and that the model's answer is then the state as it is, is the model's choice (log 12). The
invariant is a premise because it is what ties `INIT_FAIL` and the pin's direction to the state. -/
def Obligations.InitFailedIsLeftOnlyByReset : Prop :=
  ∀ (p : Params) (s : State), Inv p s → s.pos.st = .initFailed →
    s.busy = false ∧ s.pin.dir = .input ∧ s.driven = none ∧ sequencerStep p s = .next s ∧
    (∀ v, hostWrite 0 v s = .next { s with flags := { s.flags with cmdRefused := true } }) ∧
    (∀ t, stepWith p s = .next t → (∀ a ok rest, s.inputs = ⟨a, .reset ok⟩ :: rest → a.due s.busy = false) →
      t.pos = s.pos ∧ t.flags.initFail = true ∧ t.pin = s.pin ∧ t.history = s.history ∧ t.err = s.err ∧
      t.flags.resultValid = false ∧ t.result = s.result)

/-! ## The whole machine -/

/-- The invariant holds after reset, whatever `INIT_OK` is, and for every parameters. It rests on no value of a register
that the spec leaves unspecified at reset (log 5): its bounds speak of counters and sums only once a capture or a decode
has written them. -/
def Obligations.ResetMeetsTheInvariant : Prop := ∀ (p : Params) (ok : Bool), Inv p (State.resetWith ok)

/-- From every state that meets the invariant, a step of the machine gives a state that meets it. Its clause about
`SLOT` and `PHASE` outside Capturing rests on the model's choice of log 10. No clause rests on the reset values of log 5,
a reset being one of the steps. -/
def Obligations.EveryStepKeepsTheInvariant : Prop :=
  ∀ (p : Params) (s t : State), Inv p s → stepWith p s = .next t → Inv p t

/-- From every state that meets the invariant the machine has a next state: it neither faults nor refuses
(44_sensor_session.md section 4). That Idle without a due event and InitFailed answer the state as it is, is the model's
choice (log 12), and so is the fault of the positions that the invariant rules out (log 11). -/
def Obligations.NoStepStopsUnderTheInvariant : Prop :=
  ∀ (p : Params) (s : State), Inv p s → ∃ t, stepWith p s = .next t ∧ Inv p t

/-- A step at which no reset is due touches the line through at most one event, which says what it did to the pin; a step
without an event leaves the pin and the line environment alone (20_memory.md sections 2 and 5). -/
def Obligations.EveryLineTouchIsOneEvent : Prop :=
  ∀ (p : Params) (s t : State), stepWith p s = .next t →
    (∀ a ok rest, s.inputs = ⟨a, .reset ok⟩ :: rest → a.due s.busy = false) →
    (t.history = s.history ∧ t.pin = s.pin ∧ t.line = s.line ∧ t.lineDraws = s.lineDraws) ∨
    ∃ e, t.history = s.history ++ [e] ∧
      match e with
      | .sample v => v = s.nextLevel ∧ t.pin.dir = s.pin.dir ∧ t.pin.out = s.pin.out ∧ t.line = s.line.tail
      | .drive l => t.pin = { s.pin with out := l } ∧ t.line = s.line
      | .mode d => t.pin = { s.pin with dir := d } ∧ t.line = s.line
      | .hold _ => t.pin = s.pin ∧ t.line = s.line

/-- A capture reads the line and nothing else: while Capturing, the sequencer's step is one sample and leaves the
direction and the driven level alone, and its next state has every byte, result and host field as before
(41_pulse_capture.md section 4). The host fields are the model's own (log 7, log 8, log 9). -/
def Obligations.CaptureStepsOnlySample : Prop :=
  ∀ (p : Params) (s t : State), s.pos.st = .capturing → sequencerStep p s = .next t →
    t.history = s.history ++ [.sample s.nextLevel] ∧ t.pin.dir = s.pin.dir ∧ t.pin.out = s.pin.out ∧
    t.bytes = s.bytes ∧ t.result = s.result ∧ t.thresh = s.thresh ∧ t.sumLow = s.sumLow ∧
    t.flags.initFail = s.flags.initFail ∧ t.flags.readingValid = s.flags.readingValid ∧
    t.flags.resultValid = s.flags.resultValid ∧ t.flags.cmdRefused = s.flags.cmdRefused ∧
    t.hostData = s.hostData ∧ t.readDraws = s.readDraws ∧ t.inputs = s.inputs ∧
    (∀ j : Fin 82, j.val / 2 ≠ s.pos.slot.val → t.counts[j] = s.counts[j])

/-- Every accepted READ, undisturbed, is back in Idle after at most `8 + 82 * (MAX_POLL + 1) + 2` further steps, busy
all the while, with the pin an input and `PIN_OUT` 1, and with either a result and no error or one of the two
transient errors and nothing readable (44_sensor_session.md sections 3 and 5, 60_exceptions.md section 4). -/
def Obligations.EveryReadReturnsToIdle : Prop :=
  ∀ (p : Params) (s : State), s.Admits → s.inputs = [] →
    ∃ k t, k ≤ 8 + 82 * (p.maxPoll + 1) + 2 ∧ issueThenRun p .read k s = .next t ∧
      t.pos = ⟨.idle, 0, 0, .low, .none⟩ ∧ t.pin.dir = .input ∧ t.pin.out = .high ∧
      t.flags.initFail = false ∧ t.flags.cmdRefused = false ∧
      t.flags.countsValid = false ∧ t.flags.readingValid = false ∧
      ((t.flags.resultValid = true ∧ t.err = ⟨.none, 0, 0⟩) ∨
       (t.flags.resultValid = false ∧ t.err = ⟨.readTimeout, 0, 0⟩) ∨
       (t.flags.resultValid = false ∧ t.err.kind = .checksum ∧ t.err.expected ≠ t.err.computed)) ∧
      (∀ j, j < k → ∃ u, issueThenRun p .read j s = .next u ∧ u.busy = true)

/-- A READ whose line shows counts that spell a quintet with a matching checksum ends with that quintet's humidity and
temperature (95_test_vectors.md section 1, S6; sections 41 to 44; the samples to come as a list are log 6). -/
def Obligations.ReadReproducesTheSpelledReading : Prop :=
  ∀ (p : Params) (s : State) (x : Vector Nat 82) (q : Vector Byte 5) (rest : List Level),
    s.Admits → s.inputs = [] → (∀ i : Fin 82, x[i] ≤ p.maxPoll) → Spells x q → q[4] = specChecksum q →
    s.line = frameSamples x ++ rest →
    issueThenRun p .read (8 + (82 + x.toList.sum) + 2) s = .next { s with
      pos := ⟨.idle, 0, 0, .low, .none⟩
      pin := ⟨.input, .high, false⟩
      flags := ⟨false, false, false, true, false⟩
      err := ⟨.none, 0, 0⟩
      counts := x
      sumLow := specSumLow x
      thresh := specSumLow x / 40
      bytes := q
      result := convert q
      line := rest
      history := s.history ++ wakeEvents ++ (frameSamples x).map Event.sample }

/-- READ against its expansion: from one state, so on the same samples, READ and the host program of its eight
operations leave the same registers, flags, error and pin, and the same events but for the three holds; the program's
refused words set `CMD_REFUSED`, which READ never does (44_sensor_session.md section 5). The form of the host program
is the model's choice (log 8). -/
def Obligations.ReadAgreesWithItsExpansion : Prop :=
  ∀ (p : Params) (s : State), s.Admits → s.inputs = [] →
    ∃ (m n : Nat) (t u : State) (samples : List Event),
      issueThenRun p .read m s = .next t ∧ t.pos.st = .idle ∧
      runWith p n { s with inputs := readExpansion } = .next u ∧ u.pos.st = .idle ∧ u.inputs = [] ∧
      t.counts = u.counts ∧ t.bytes = u.bytes ∧ t.result = u.result ∧ t.sumLow = u.sumLow ∧ t.thresh = u.thresh ∧
      t.flags.countsValid = u.flags.countsValid ∧ t.flags.readingValid = u.flags.readingValid ∧
      t.flags.resultValid = u.flags.resultValid ∧ t.err = u.err ∧ t.pin.dir = u.pin.dir ∧ t.pin.out = u.pin.out ∧
      t.history = s.history ++ wakeEvents ++ samples ∧ u.history = s.history ++ wakeEventsWithoutHolds ++ samples ∧
      t.flags.cmdRefused = false ∧ (u.flags.cmdRefused = true ↔ u.err.kind ≠ .none)

/-- No data crosses from one acquisition to the next: the outcome of a READ depends on nothing but the parameters and
the samples it receives (10_state.md section 11, 44_sensor_session.md section 3). That the samples to come are a list and
then draws by number is the model's choice (log 6). -/
def Obligations.ReadForgetsEverythingEarlier : Prop :=
  ∀ (p : Params) (s s' : State), s.Admits → s'.Admits → s.inputs = [] → s'.inputs = [] →
    s.line = s'.line → s.lineDraws = s'.lineDraws →
    ∃ (k : Nat) (t t' : State) (events : List Event), issueThenRun p .read k s = .next t ∧ issueThenRun p .read k s' = .next t' ∧
      t.pos = ⟨.idle, 0, 0, .low, .none⟩ ∧ t.pos = t'.pos ∧ t.pin = t'.pin ∧ t.flags = t'.flags ∧ t.err = t'.err ∧
      t.counts = t'.counts ∧ (t.flags.resultValid = true → t.result = t'.result) ∧
      t.history = s.history ++ events ∧ t'.history = s'.history ++ events
end

