-- ==== Sys2Proof/Laws/State.lean ====
section
/-! SUPPORT. What each shared operation leaves in each field of State, one lemma per field and operation, so that no
later proof unfolds a record update. The operations are those of Machine/Ops.lean and the bodies of the composite steps. -/

namespace Sys2Proof.Machine

/-! ### `takeSample` -/

@[simp] theorem State.takeSample_pos (s : State) : s.takeSample.pos = s.pos := rfl
@[simp] theorem State.takeSample_pin (s : State) : s.takeSample.pin = s.pin := rfl
@[simp] theorem State.takeSample_flags (s : State) : s.takeSample.flags = s.flags := rfl
@[simp] theorem State.takeSample_err (s : State) : s.takeSample.err = s.err := rfl
@[simp] theorem State.takeSample_counts (s : State) : s.takeSample.counts = s.counts := rfl
@[simp] theorem State.takeSample_thresh (s : State) : s.takeSample.thresh = s.thresh := rfl
@[simp] theorem State.takeSample_sumLow (s : State) : s.takeSample.sumLow = s.sumLow := rfl
@[simp] theorem State.takeSample_bytes (s : State) : s.takeSample.bytes = s.bytes := rfl
@[simp] theorem State.takeSample_result (s : State) : s.takeSample.result = s.result := rfl
@[simp] theorem State.takeSample_history (s : State) : s.takeSample.history = s.history ++ [.sample s.nextLevel] := rfl
@[simp] theorem State.takeSample_line (s : State) : s.takeSample.line = s.line.tail := rfl
@[simp] theorem State.takeSample_lineDraws (s : State) : s.takeSample.lineDraws = if s.line.isEmpty then s.lineDraws + 1 else s.lineDraws := rfl
@[simp] theorem State.takeSample_readDraws (s : State) : s.takeSample.readDraws = s.readDraws := rfl
@[simp] theorem State.takeSample_hostData (s : State) : s.takeSample.hostData = s.hostData := rfl
@[simp] theorem State.takeSample_inputs (s : State) : s.takeSample.inputs = s.inputs := rfl

/-! ### `pinWrite` -/

@[simp] theorem State.pinWrite_pos (l : Level) (s : State) : (s.pinWrite l).pos = s.pos := rfl
@[simp] theorem State.pinWrite_pin (l : Level) (s : State) : (s.pinWrite l).pin = { s.pin with out := l } := rfl
@[simp] theorem State.pinWrite_flags (l : Level) (s : State) : (s.pinWrite l).flags = s.flags := rfl
@[simp] theorem State.pinWrite_err (l : Level) (s : State) : (s.pinWrite l).err = s.err := rfl
@[simp] theorem State.pinWrite_counts (l : Level) (s : State) : (s.pinWrite l).counts = s.counts := rfl
@[simp] theorem State.pinWrite_thresh (l : Level) (s : State) : (s.pinWrite l).thresh = s.thresh := rfl
@[simp] theorem State.pinWrite_sumLow (l : Level) (s : State) : (s.pinWrite l).sumLow = s.sumLow := rfl
@[simp] theorem State.pinWrite_bytes (l : Level) (s : State) : (s.pinWrite l).bytes = s.bytes := rfl
@[simp] theorem State.pinWrite_result (l : Level) (s : State) : (s.pinWrite l).result = s.result := rfl
@[simp] theorem State.pinWrite_history (l : Level) (s : State) : (s.pinWrite l).history = s.history ++ [.drive l] := rfl
@[simp] theorem State.pinWrite_line (l : Level) (s : State) : (s.pinWrite l).line = s.line := rfl
@[simp] theorem State.pinWrite_lineDraws (l : Level) (s : State) : (s.pinWrite l).lineDraws = s.lineDraws := rfl
@[simp] theorem State.pinWrite_readDraws (l : Level) (s : State) : (s.pinWrite l).readDraws = s.readDraws := rfl
@[simp] theorem State.pinWrite_hostData (l : Level) (s : State) : (s.pinWrite l).hostData = s.hostData := rfl
@[simp] theorem State.pinWrite_inputs (l : Level) (s : State) : (s.pinWrite l).inputs = s.inputs := rfl

/-! ### `pinMode` -/

@[simp] theorem State.pinMode_pos (d : Direction) (s : State) : (s.pinMode d).pos = s.pos := rfl
@[simp] theorem State.pinMode_pin (d : Direction) (s : State) : (s.pinMode d).pin = { s.pin with dir := d } := rfl
@[simp] theorem State.pinMode_flags (d : Direction) (s : State) : (s.pinMode d).flags = s.flags := rfl
@[simp] theorem State.pinMode_err (d : Direction) (s : State) : (s.pinMode d).err = s.err := rfl
@[simp] theorem State.pinMode_counts (d : Direction) (s : State) : (s.pinMode d).counts = s.counts := rfl
@[simp] theorem State.pinMode_thresh (d : Direction) (s : State) : (s.pinMode d).thresh = s.thresh := rfl
@[simp] theorem State.pinMode_sumLow (d : Direction) (s : State) : (s.pinMode d).sumLow = s.sumLow := rfl
@[simp] theorem State.pinMode_bytes (d : Direction) (s : State) : (s.pinMode d).bytes = s.bytes := rfl
@[simp] theorem State.pinMode_result (d : Direction) (s : State) : (s.pinMode d).result = s.result := rfl
@[simp] theorem State.pinMode_history (d : Direction) (s : State) : (s.pinMode d).history = s.history ++ [.mode d] := rfl
@[simp] theorem State.pinMode_line (d : Direction) (s : State) : (s.pinMode d).line = s.line := rfl
@[simp] theorem State.pinMode_lineDraws (d : Direction) (s : State) : (s.pinMode d).lineDraws = s.lineDraws := rfl
@[simp] theorem State.pinMode_readDraws (d : Direction) (s : State) : (s.pinMode d).readDraws = s.readDraws := rfl
@[simp] theorem State.pinMode_hostData (d : Direction) (s : State) : (s.pinMode d).hostData = s.hostData := rfl
@[simp] theorem State.pinMode_inputs (d : Direction) (s : State) : (s.pinMode d).inputs = s.inputs := rfl

/-! ### `hold` -/

@[simp] theorem State.hold_pos (t : HoldParam) (s : State) : (s.hold t).pos = s.pos := rfl
@[simp] theorem State.hold_pin (t : HoldParam) (s : State) : (s.hold t).pin = s.pin := rfl
@[simp] theorem State.hold_flags (t : HoldParam) (s : State) : (s.hold t).flags = s.flags := rfl
@[simp] theorem State.hold_err (t : HoldParam) (s : State) : (s.hold t).err = s.err := rfl
@[simp] theorem State.hold_counts (t : HoldParam) (s : State) : (s.hold t).counts = s.counts := rfl
@[simp] theorem State.hold_thresh (t : HoldParam) (s : State) : (s.hold t).thresh = s.thresh := rfl
@[simp] theorem State.hold_sumLow (t : HoldParam) (s : State) : (s.hold t).sumLow = s.sumLow := rfl
@[simp] theorem State.hold_bytes (t : HoldParam) (s : State) : (s.hold t).bytes = s.bytes := rfl
@[simp] theorem State.hold_result (t : HoldParam) (s : State) : (s.hold t).result = s.result := rfl
@[simp] theorem State.hold_history (t : HoldParam) (s : State) : (s.hold t).history = s.history ++ [.hold t] := rfl
@[simp] theorem State.hold_line (t : HoldParam) (s : State) : (s.hold t).line = s.line := rfl
@[simp] theorem State.hold_lineDraws (t : HoldParam) (s : State) : (s.hold t).lineDraws = s.lineDraws := rfl
@[simp] theorem State.hold_readDraws (t : HoldParam) (s : State) : (s.hold t).readDraws = s.readDraws := rfl
@[simp] theorem State.hold_hostData (t : HoldParam) (s : State) : (s.hold t).hostData = s.hostData := rfl
@[simp] theorem State.hold_inputs (t : HoldParam) (s : State) : (s.hold t).inputs = s.inputs := rfl

/-! ### `poll` -/

@[simp] theorem State.poll_pos (a : Level) (s : State) : (s.poll a).pos = s.pos := rfl
@[simp] theorem State.poll_pin (a : Level) (s : State) : (s.poll a).pin = { s.pin with res := s.nextLevel == a } := rfl
@[simp] theorem State.poll_flags (a : Level) (s : State) : (s.poll a).flags = s.flags := rfl
@[simp] theorem State.poll_err (a : Level) (s : State) : (s.poll a).err = s.err := rfl
@[simp] theorem State.poll_counts (a : Level) (s : State) : (s.poll a).counts = s.counts := rfl
@[simp] theorem State.poll_thresh (a : Level) (s : State) : (s.poll a).thresh = s.thresh := rfl
@[simp] theorem State.poll_sumLow (a : Level) (s : State) : (s.poll a).sumLow = s.sumLow := rfl
@[simp] theorem State.poll_bytes (a : Level) (s : State) : (s.poll a).bytes = s.bytes := rfl
@[simp] theorem State.poll_result (a : Level) (s : State) : (s.poll a).result = s.result := rfl
@[simp] theorem State.poll_history (a : Level) (s : State) : (s.poll a).history = s.history ++ [.sample s.nextLevel] := rfl
@[simp] theorem State.poll_line (a : Level) (s : State) : (s.poll a).line = s.line.tail := rfl
@[simp] theorem State.poll_lineDraws (a : Level) (s : State) : (s.poll a).lineDraws = if s.line.isEmpty then s.lineDraws + 1 else s.lineDraws := rfl
@[simp] theorem State.poll_readDraws (a : Level) (s : State) : (s.poll a).readDraws = s.readDraws := rfl
@[simp] theorem State.poll_hostData (a : Level) (s : State) : (s.poll a).hostData = s.hostData := rfl
@[simp] theorem State.poll_inputs (a : Level) (s : State) : (s.poll a).inputs = s.inputs := rfl

/-! ### `setCounter` -/

@[simp] theorem State.setCounter_pos (i : Fin 82) (v : Nat) (s : State) : (s.setCounter i v).pos = s.pos := rfl
@[simp] theorem State.setCounter_pin (i : Fin 82) (v : Nat) (s : State) : (s.setCounter i v).pin = s.pin := rfl
@[simp] theorem State.setCounter_flags (i : Fin 82) (v : Nat) (s : State) : (s.setCounter i v).flags = s.flags := rfl
@[simp] theorem State.setCounter_err (i : Fin 82) (v : Nat) (s : State) : (s.setCounter i v).err = s.err := rfl
@[simp] theorem State.setCounter_counts (i : Fin 82) (v : Nat) (s : State) : (s.setCounter i v).counts = s.counts.set i v := rfl
@[simp] theorem State.setCounter_thresh (i : Fin 82) (v : Nat) (s : State) : (s.setCounter i v).thresh = s.thresh := rfl
@[simp] theorem State.setCounter_sumLow (i : Fin 82) (v : Nat) (s : State) : (s.setCounter i v).sumLow = s.sumLow := rfl
@[simp] theorem State.setCounter_bytes (i : Fin 82) (v : Nat) (s : State) : (s.setCounter i v).bytes = s.bytes := rfl
@[simp] theorem State.setCounter_result (i : Fin 82) (v : Nat) (s : State) : (s.setCounter i v).result = s.result := rfl
@[simp] theorem State.setCounter_history (i : Fin 82) (v : Nat) (s : State) : (s.setCounter i v).history = s.history := rfl
@[simp] theorem State.setCounter_line (i : Fin 82) (v : Nat) (s : State) : (s.setCounter i v).line = s.line := rfl
@[simp] theorem State.setCounter_lineDraws (i : Fin 82) (v : Nat) (s : State) : (s.setCounter i v).lineDraws = s.lineDraws := rfl
@[simp] theorem State.setCounter_readDraws (i : Fin 82) (v : Nat) (s : State) : (s.setCounter i v).readDraws = s.readDraws := rfl
@[simp] theorem State.setCounter_hostData (i : Fin 82) (v : Nat) (s : State) : (s.setCounter i v).hostData = s.hostData := rfl
@[simp] theorem State.setCounter_inputs (i : Fin 82) (v : Nat) (s : State) : (s.setCounter i v).inputs = s.inputs := rfl

/-! ### `captureEntry` -/

@[simp] theorem State.captureEntry_pos (s : State) : s.captureEntry.pos = { s.pos with st := .capturing, slot := 0, phase := .low } := rfl
@[simp] theorem State.captureEntry_pin (s : State) : s.captureEntry.pin = s.pin := rfl
@[simp] theorem State.captureEntry_flags (s : State) : s.captureEntry.flags = s.flags := rfl
@[simp] theorem State.captureEntry_err (s : State) : s.captureEntry.err = s.err := rfl
@[simp] theorem State.captureEntry_counts (s : State) : s.captureEntry.counts = Vector.replicate 82 0 := rfl
@[simp] theorem State.captureEntry_thresh (s : State) : s.captureEntry.thresh = s.thresh := rfl
@[simp] theorem State.captureEntry_sumLow (s : State) : s.captureEntry.sumLow = s.sumLow := rfl
@[simp] theorem State.captureEntry_bytes (s : State) : s.captureEntry.bytes = s.bytes := rfl
@[simp] theorem State.captureEntry_result (s : State) : s.captureEntry.result = s.result := rfl
@[simp] theorem State.captureEntry_history (s : State) : s.captureEntry.history = s.history := rfl
@[simp] theorem State.captureEntry_line (s : State) : s.captureEntry.line = s.line := rfl
@[simp] theorem State.captureEntry_lineDraws (s : State) : s.captureEntry.lineDraws = s.lineDraws := rfl
@[simp] theorem State.captureEntry_readDraws (s : State) : s.captureEntry.readDraws = s.readDraws := rfl
@[simp] theorem State.captureEntry_hostData (s : State) : s.captureEntry.hostData = s.hostData := rfl
@[simp] theorem State.captureEntry_inputs (s : State) : s.captureEntry.inputs = s.inputs := rfl

/-! ### `refuse` -/

@[simp] theorem State.refuse_pos (s : State) : s.refuse.pos = s.pos := rfl
@[simp] theorem State.refuse_pin (s : State) : s.refuse.pin = s.pin := rfl
@[simp] theorem State.refuse_flags (s : State) : s.refuse.flags = s.flags.refused := rfl
@[simp] theorem State.refuse_err (s : State) : s.refuse.err = s.err := rfl
@[simp] theorem State.refuse_counts (s : State) : s.refuse.counts = s.counts := rfl
@[simp] theorem State.refuse_thresh (s : State) : s.refuse.thresh = s.thresh := rfl
@[simp] theorem State.refuse_sumLow (s : State) : s.refuse.sumLow = s.sumLow := rfl
@[simp] theorem State.refuse_bytes (s : State) : s.refuse.bytes = s.bytes := rfl
@[simp] theorem State.refuse_result (s : State) : s.refuse.result = s.result := rfl
@[simp] theorem State.refuse_history (s : State) : s.refuse.history = s.history := rfl
@[simp] theorem State.refuse_line (s : State) : s.refuse.line = s.line := rfl
@[simp] theorem State.refuse_lineDraws (s : State) : s.refuse.lineDraws = s.lineDraws := rfl
@[simp] theorem State.refuse_readDraws (s : State) : s.refuse.readDraws = s.readDraws := rfl
@[simp] theorem State.refuse_hostData (s : State) : s.refuse.hostData = s.hostData := rfl
@[simp] theorem State.refuse_inputs (s : State) : s.refuse.inputs = s.inputs := rfl

/-! ### `accept` -/

@[simp] theorem State.accept_pos (s : State) : s.accept.pos = s.pos := rfl
@[simp] theorem State.accept_pin (s : State) : s.accept.pin = s.pin := rfl
@[simp] theorem State.accept_flags (s : State) : s.accept.flags = s.flags.accepted := rfl
@[simp] theorem State.accept_err (s : State) : s.accept.err = s.err := rfl
@[simp] theorem State.accept_counts (s : State) : s.accept.counts = s.counts := rfl
@[simp] theorem State.accept_thresh (s : State) : s.accept.thresh = s.thresh := rfl
@[simp] theorem State.accept_sumLow (s : State) : s.accept.sumLow = s.sumLow := rfl
@[simp] theorem State.accept_bytes (s : State) : s.accept.bytes = s.bytes := rfl
@[simp] theorem State.accept_result (s : State) : s.accept.result = s.result := rfl
@[simp] theorem State.accept_history (s : State) : s.accept.history = s.history := rfl
@[simp] theorem State.accept_line (s : State) : s.accept.line = s.line := rfl
@[simp] theorem State.accept_lineDraws (s : State) : s.accept.lineDraws = s.lineDraws := rfl
@[simp] theorem State.accept_readDraws (s : State) : s.accept.readDraws = s.readDraws := rfl
@[simp] theorem State.accept_hostData (s : State) : s.accept.hostData = s.hostData := rfl
@[simp] theorem State.accept_inputs (s : State) : s.accept.inputs = s.inputs := rfl

/-! ### `returnToIdle` -/

@[simp] theorem State.returnToIdle_pos (s : State) : s.returnToIdle.pos = Position.restAt .idle := rfl
@[simp] theorem State.returnToIdle_pin (s : State) : s.returnToIdle.pin = s.pin := rfl
@[simp] theorem State.returnToIdle_flags (s : State) : s.returnToIdle.flags = s.flags := rfl
@[simp] theorem State.returnToIdle_err (s : State) : s.returnToIdle.err = s.err := rfl
@[simp] theorem State.returnToIdle_counts (s : State) : s.returnToIdle.counts = s.counts := rfl
@[simp] theorem State.returnToIdle_thresh (s : State) : s.returnToIdle.thresh = s.thresh := rfl
@[simp] theorem State.returnToIdle_sumLow (s : State) : s.returnToIdle.sumLow = s.sumLow := rfl
@[simp] theorem State.returnToIdle_bytes (s : State) : s.returnToIdle.bytes = s.bytes := rfl
@[simp] theorem State.returnToIdle_result (s : State) : s.returnToIdle.result = s.result := rfl
@[simp] theorem State.returnToIdle_history (s : State) : s.returnToIdle.history = s.history := rfl
@[simp] theorem State.returnToIdle_line (s : State) : s.returnToIdle.line = s.line := rfl
@[simp] theorem State.returnToIdle_lineDraws (s : State) : s.returnToIdle.lineDraws = s.lineDraws := rfl
@[simp] theorem State.returnToIdle_readDraws (s : State) : s.returnToIdle.readDraws = s.readDraws := rfl
@[simp] theorem State.returnToIdle_hostData (s : State) : s.returnToIdle.hostData = s.hostData := rfl
@[simp] theorem State.returnToIdle_inputs (s : State) : s.returnToIdle.inputs = s.inputs := rfl

/-! ### `raiseError` -/

@[simp] theorem State.raiseError_pos (e : ErrorReg) (s : State) : (s.raiseError e).pos = Position.restAt .idle := rfl
@[simp] theorem State.raiseError_pin (e : ErrorReg) (s : State) : (s.raiseError e).pin = s.pin := rfl
@[simp] theorem State.raiseError_flags (e : ErrorReg) (s : State) : (s.raiseError e).flags = s.flags := rfl
@[simp] theorem State.raiseError_err (e : ErrorReg) (s : State) : (s.raiseError e).err = e := rfl
@[simp] theorem State.raiseError_counts (e : ErrorReg) (s : State) : (s.raiseError e).counts = s.counts := rfl
@[simp] theorem State.raiseError_thresh (e : ErrorReg) (s : State) : (s.raiseError e).thresh = s.thresh := rfl
@[simp] theorem State.raiseError_sumLow (e : ErrorReg) (s : State) : (s.raiseError e).sumLow = s.sumLow := rfl
@[simp] theorem State.raiseError_bytes (e : ErrorReg) (s : State) : (s.raiseError e).bytes = s.bytes := rfl
@[simp] theorem State.raiseError_result (e : ErrorReg) (s : State) : (s.raiseError e).result = s.result := rfl
@[simp] theorem State.raiseError_history (e : ErrorReg) (s : State) : (s.raiseError e).history = s.history := rfl
@[simp] theorem State.raiseError_line (e : ErrorReg) (s : State) : (s.raiseError e).line = s.line := rfl
@[simp] theorem State.raiseError_lineDraws (e : ErrorReg) (s : State) : (s.raiseError e).lineDraws = s.lineDraws := rfl
@[simp] theorem State.raiseError_readDraws (e : ErrorReg) (s : State) : (s.raiseError e).readDraws = s.readDraws := rfl
@[simp] theorem State.raiseError_hostData (e : ErrorReg) (s : State) : (s.raiseError e).hostData = s.hostData := rfl
@[simp] theorem State.raiseError_inputs (e : ErrorReg) (s : State) : (s.raiseError e).inputs = s.inputs := rfl

/-! ### `clearError` -/

@[simp] theorem State.clearError_pos (s : State) : s.clearError.pos = s.pos := rfl
@[simp] theorem State.clearError_pin (s : State) : s.clearError.pin = s.pin := rfl
@[simp] theorem State.clearError_flags (s : State) : s.clearError.flags = s.flags := rfl
@[simp] theorem State.clearError_err (s : State) : s.clearError.err = ErrorReg.clear := rfl
@[simp] theorem State.clearError_counts (s : State) : s.clearError.counts = s.counts := rfl
@[simp] theorem State.clearError_thresh (s : State) : s.clearError.thresh = s.thresh := rfl
@[simp] theorem State.clearError_sumLow (s : State) : s.clearError.sumLow = s.sumLow := rfl
@[simp] theorem State.clearError_bytes (s : State) : s.clearError.bytes = s.bytes := rfl
@[simp] theorem State.clearError_result (s : State) : s.clearError.result = s.result := rfl
@[simp] theorem State.clearError_history (s : State) : s.clearError.history = s.history := rfl
@[simp] theorem State.clearError_line (s : State) : s.clearError.line = s.line := rfl
@[simp] theorem State.clearError_lineDraws (s : State) : s.clearError.lineDraws = s.lineDraws := rfl
@[simp] theorem State.clearError_readDraws (s : State) : s.clearError.readDraws = s.readDraws := rfl
@[simp] theorem State.clearError_hostData (s : State) : s.clearError.hostData = s.hostData := rfl
@[simp] theorem State.clearError_inputs (s : State) : s.clearError.inputs = s.inputs := rfl

/-! ### `resetBlock` -/

@[simp] theorem State.resetBlock_pos (b : Bool) (s : State) : (s.resetBlock b).pos = (State.resetWith b).pos := rfl
@[simp] theorem State.resetBlock_pin (b : Bool) (s : State) : (s.resetBlock b).pin = (State.resetWith b).pin := rfl
@[simp] theorem State.resetBlock_flags (b : Bool) (s : State) : (s.resetBlock b).flags = (State.resetWith b).flags := rfl
@[simp] theorem State.resetBlock_err (b : Bool) (s : State) : (s.resetBlock b).err = (State.resetWith b).err := rfl
@[simp] theorem State.resetBlock_counts (b : Bool) (s : State) : (s.resetBlock b).counts = (State.resetWith b).counts := rfl
@[simp] theorem State.resetBlock_thresh (b : Bool) (s : State) : (s.resetBlock b).thresh = (State.resetWith b).thresh := rfl
@[simp] theorem State.resetBlock_sumLow (b : Bool) (s : State) : (s.resetBlock b).sumLow = (State.resetWith b).sumLow := rfl
@[simp] theorem State.resetBlock_bytes (b : Bool) (s : State) : (s.resetBlock b).bytes = (State.resetWith b).bytes := rfl
@[simp] theorem State.resetBlock_result (b : Bool) (s : State) : (s.resetBlock b).result = (State.resetWith b).result := rfl
@[simp] theorem State.resetBlock_history (b : Bool) (s : State) : (s.resetBlock b).history = s.history := rfl
@[simp] theorem State.resetBlock_line (b : Bool) (s : State) : (s.resetBlock b).line = s.line := rfl
@[simp] theorem State.resetBlock_lineDraws (b : Bool) (s : State) : (s.resetBlock b).lineDraws = s.lineDraws := rfl
@[simp] theorem State.resetBlock_readDraws (b : Bool) (s : State) : (s.resetBlock b).readDraws = s.readDraws := rfl
@[simp] theorem State.resetBlock_hostData (b : Bool) (s : State) : (s.resetBlock b).hostData = s.hostData := rfl
@[simp] theorem State.resetBlock_inputs (b : Bool) (s : State) : (s.resetBlock b).inputs = s.inputs := rfl

/-! ### `writeDecode` -/

@[simp] theorem State.writeDecode_pos (s : State) : s.writeDecode.pos = s.pos := rfl
@[simp] theorem State.writeDecode_pin (s : State) : s.writeDecode.pin = s.pin := rfl
@[simp] theorem State.writeDecode_flags (s : State) : s.writeDecode.flags = s.flags.decoded (checksumOk (packBytes s.counts)) := rfl
@[simp] theorem State.writeDecode_err (s : State) : s.writeDecode.err = s.err := rfl
@[simp] theorem State.writeDecode_counts (s : State) : s.writeDecode.counts = s.counts := rfl
@[simp] theorem State.writeDecode_thresh (s : State) : s.writeDecode.thresh = threshOf s.counts := rfl
@[simp] theorem State.writeDecode_sumLow (s : State) : s.writeDecode.sumLow = sumLowOf s.counts := rfl
@[simp] theorem State.writeDecode_bytes (s : State) : s.writeDecode.bytes = packBytes s.counts := rfl
@[simp] theorem State.writeDecode_result (s : State) : s.writeDecode.result = s.result := rfl
@[simp] theorem State.writeDecode_history (s : State) : s.writeDecode.history = s.history := rfl
@[simp] theorem State.writeDecode_line (s : State) : s.writeDecode.line = s.line := rfl
@[simp] theorem State.writeDecode_lineDraws (s : State) : s.writeDecode.lineDraws = s.lineDraws := rfl
@[simp] theorem State.writeDecode_readDraws (s : State) : s.writeDecode.readDraws = s.readDraws := rfl
@[simp] theorem State.writeDecode_hostData (s : State) : s.writeDecode.hostData = s.hostData := rfl
@[simp] theorem State.writeDecode_inputs (s : State) : s.writeDecode.inputs = s.inputs := rfl

/-! ### `convertBody` -/

@[simp] theorem State.convertBody_pos (s : State) : s.convertBody.pos = s.pos := rfl
@[simp] theorem State.convertBody_pin (s : State) : s.convertBody.pin = s.pin := rfl
@[simp] theorem State.convertBody_flags (s : State) : s.convertBody.flags = s.flags.converted := rfl
@[simp] theorem State.convertBody_err (s : State) : s.convertBody.err = s.err := rfl
@[simp] theorem State.convertBody_counts (s : State) : s.convertBody.counts = s.counts := rfl
@[simp] theorem State.convertBody_thresh (s : State) : s.convertBody.thresh = s.thresh := rfl
@[simp] theorem State.convertBody_sumLow (s : State) : s.convertBody.sumLow = s.sumLow := rfl
@[simp] theorem State.convertBody_bytes (s : State) : s.convertBody.bytes = s.bytes := rfl
@[simp] theorem State.convertBody_result (s : State) : s.convertBody.result = Machine.convert s.bytes := rfl
@[simp] theorem State.convertBody_history (s : State) : s.convertBody.history = s.history := rfl
@[simp] theorem State.convertBody_line (s : State) : s.convertBody.line = s.line := rfl
@[simp] theorem State.convertBody_lineDraws (s : State) : s.convertBody.lineDraws = s.lineDraws := rfl
@[simp] theorem State.convertBody_readDraws (s : State) : s.convertBody.readDraws = s.readDraws := rfl
@[simp] theorem State.convertBody_hostData (s : State) : s.convertBody.hostData = s.hostData := rfl
@[simp] theorem State.convertBody_inputs (s : State) : s.convertBody.inputs = s.inputs := rfl

/-! ### `moveTo` -/

@[simp] theorem State.moveTo_pos (st : SessionState) (u : Fin 8) (s : State) : (s.moveTo st u).pos = { s.pos with st := st, upc := u } := rfl
@[simp] theorem State.moveTo_pin (st : SessionState) (u : Fin 8) (s : State) : (s.moveTo st u).pin = s.pin := rfl
@[simp] theorem State.moveTo_flags (st : SessionState) (u : Fin 8) (s : State) : (s.moveTo st u).flags = s.flags := rfl
@[simp] theorem State.moveTo_err (st : SessionState) (u : Fin 8) (s : State) : (s.moveTo st u).err = s.err := rfl
@[simp] theorem State.moveTo_counts (st : SessionState) (u : Fin 8) (s : State) : (s.moveTo st u).counts = s.counts := rfl
@[simp] theorem State.moveTo_thresh (st : SessionState) (u : Fin 8) (s : State) : (s.moveTo st u).thresh = s.thresh := rfl
@[simp] theorem State.moveTo_sumLow (st : SessionState) (u : Fin 8) (s : State) : (s.moveTo st u).sumLow = s.sumLow := rfl
@[simp] theorem State.moveTo_bytes (st : SessionState) (u : Fin 8) (s : State) : (s.moveTo st u).bytes = s.bytes := rfl
@[simp] theorem State.moveTo_result (st : SessionState) (u : Fin 8) (s : State) : (s.moveTo st u).result = s.result := rfl
@[simp] theorem State.moveTo_history (st : SessionState) (u : Fin 8) (s : State) : (s.moveTo st u).history = s.history := rfl
@[simp] theorem State.moveTo_line (st : SessionState) (u : Fin 8) (s : State) : (s.moveTo st u).line = s.line := rfl
@[simp] theorem State.moveTo_lineDraws (st : SessionState) (u : Fin 8) (s : State) : (s.moveTo st u).lineDraws = s.lineDraws := rfl
@[simp] theorem State.moveTo_readDraws (st : SessionState) (u : Fin 8) (s : State) : (s.moveTo st u).readDraws = s.readDraws := rfl
@[simp] theorem State.moveTo_hostData (st : SessionState) (u : Fin 8) (s : State) : (s.moveTo st u).hostData = s.hostData := rfl
@[simp] theorem State.moveTo_inputs (st : SessionState) (u : Fin 8) (s : State) : (s.moveTo st u).inputs = s.inputs := rfl

/-! ### `hostRead` -/

@[simp] theorem State.hostRead_pos (r : Nat) (s : State) : (s.hostRead r).pos = s.pos := rfl
@[simp] theorem State.hostRead_pin (r : Nat) (s : State) : (s.hostRead r).pin = s.pin := rfl
@[simp] theorem State.hostRead_flags (r : Nat) (s : State) : (s.hostRead r).flags = s.flags := rfl
@[simp] theorem State.hostRead_err (r : Nat) (s : State) : (s.hostRead r).err = s.err := rfl
@[simp] theorem State.hostRead_counts (r : Nat) (s : State) : (s.hostRead r).counts = s.counts := rfl
@[simp] theorem State.hostRead_thresh (r : Nat) (s : State) : (s.hostRead r).thresh = s.thresh := rfl
@[simp] theorem State.hostRead_sumLow (r : Nat) (s : State) : (s.hostRead r).sumLow = s.sumLow := rfl
@[simp] theorem State.hostRead_bytes (r : Nat) (s : State) : (s.hostRead r).bytes = s.bytes := rfl
@[simp] theorem State.hostRead_result (r : Nat) (s : State) : (s.hostRead r).result = s.result := rfl
@[simp] theorem State.hostRead_history (r : Nat) (s : State) : (s.hostRead r).history = s.history := rfl
@[simp] theorem State.hostRead_line (r : Nat) (s : State) : (s.hostRead r).line = s.line := rfl
@[simp] theorem State.hostRead_lineDraws (r : Nat) (s : State) : (s.hostRead r).lineDraws = s.lineDraws := rfl
@[simp] theorem State.hostRead_readDraws (r : Nat) (s : State) : (s.hostRead r).readDraws = s.readDraws + 1 := rfl
@[simp] theorem State.hostRead_hostData (r : Nat) (s : State) : (s.hostRead r).hostData = s.registerImage r := rfl
@[simp] theorem State.hostRead_inputs (r : Nat) (s : State) : (s.hostRead r).inputs = s.inputs := rfl

end Sys2Proof.Machine
end

