-- ==== Sys2Proof/Laws/Ops.lean ====
section
/-! SUPPORT. One lemma for each shared operation that says everything it can do: admission, the counters, the meanings'
outcome, the host's accesses, and one step of the machine. -/

namespace Sys2Proof.Machine

/-! ### Admission -/

theorem portOpen_iff (s : State) : s.portOpen = true ↔ s.Admits := by
  simp [State.portOpen, State.Admits]

theorem State.Admits.busy {s : State} (h : s.Admits) : s.busy = false := by
  simp [State.busy, h.2, SessionState.busy]

/-- An admitted word with its input has its effect. -/
theorem issue_admitted {s : State} (h : s.Admits) (effect : State → State) :
    issue true effect s = .next (effect s.accept) := by
  simp [issue, (portOpen_iff s).2 h]

/-- A word without its input is refused. -/
theorem issue_not_ready (effect : State → State) (s : State) : issue false effect s = .next s.refuse := by
  simp [issue]

/-- A word presented to a closed port is refused. -/
theorem issue_closed {s : State} (h : ¬ s.Admits) (ready : Bool) (effect : State → State) :
    issue ready effect s = .next s.refuse := by
  have : s.portOpen = false := by
    rw [← Bool.not_eq_true, portOpen_iff]; exact h
  simp [issue, this]

/-- All that presenting a word can do: its effect on the accepting state, or the refusal. -/
theorem issue_cases (ready : Bool) (effect : State → State) (s : State) :
    (s.Admits ∧ ready = true ∧ issue ready effect s = .next (effect s.accept)) ∨
    ((¬ s.Admits ∨ ready = false) ∧ issue ready effect s = .next s.refuse) := by
  by_cases h : s.Admits
  · cases ready with
    | true => exact .inl ⟨h, rfl, issue_admitted h effect⟩
    | false => exact .inr ⟨.inr rfl, issue_not_ready effect s⟩
  · exact .inr ⟨.inl h, issue_closed h ready effect⟩

/-! ### The counters -/

@[simp] theorem counter_setCounter_same (s : State) (i : Fin 82) (v : Nat) : (s.setCounter i v).counter i = v := by
  simp [State.counter, State.setCounter]

theorem counter_setCounter_ne (s : State) {i j : Fin 82} (h : i ≠ j) (v : Nat) :
    (s.setCounter i v).counter j = s.counter j := by
  have : i.val ≠ j.val := fun e => h (Fin.ext e)
  simp [State.counter, State.setCounter, this]

@[simp] theorem counter_captureEntry (s : State) (i : Fin 82) : s.captureEntry.counter i = 0 := by
  simp [State.counter, State.captureEntry]

/-! ### The meanings -/

/-- What an operation needs besides an open port (30_encoding.md R66 (d), (e)). -/
def needs (i : Instr) (s : State) : Bool :=
  match i with
  | .decode => s.flags.countsValid
  | .convert => s.flags.readingValid
  | _ => true

/-- What an accepted operation does in its first step. -/
def effect : Instr → State → State
  | .isLow => State.poll .low
  | .isHigh => State.poll .high
  | .setLow => State.pinWrite .low
  | .setHigh => State.pinWrite .high
  | .setMode d => State.pinMode d
  | .capture => State.beginCapture
  | .decode => State.beginDecode
  | .convert => State.cascadeThenConvert
  | .read => State.beginRead

/-- Every meaning is admission over its effect. -/
theorem exec_eq_issue (i : Instr) (s : State) : exec i s = issue (needs i s) (effect i) s := by
  cases i <;> rfl

/-- An operation admitted with its input has its effect. -/
theorem exec_admitted {i : Instr} {s : State} (h : s.Admits) (hn : needs i s = true) :
    exec i s = .next (effect i s.accept) := by
  rw [exec_eq_issue, hn, issue_admitted h]

/-- Otherwise it is refused. -/
theorem exec_refused {i : Instr} {s : State} (h : ¬ s.Admits ∨ needs i s = false) : exec i s = .next s.refuse := by
  rw [exec_eq_issue]
  rcases h with h | h
  · exact issue_closed h _ _
  · rw [h, issue_not_ready]

/-- All that presenting an operation can do. -/
theorem exec_cases (i : Instr) (s : State) :
    (s.Admits ∧ needs i s = true ∧ exec i s = .next (effect i s.accept)) ∨
    ((¬ s.Admits ∨ needs i s = false) ∧ exec i s = .next s.refuse) := by
  rw [exec_eq_issue]
  exact issue_cases _ _ _

/-! ### The host's accesses -/

/-- All that a write can do. -/
theorem hostWrite_cases (r : Nat) (v : HostWord) (s : State) :
    (r = 0 ∧ ∃ i, decodeWord (v.extractLsb' 0 8) = .ok i ∧ hostWrite r v s = exec i s) ∨
    (r = 0 ∧ (∃ e, decodeWord (v.extractLsb' 0 8) = .error e) ∧ hostWrite r v s = .next s.refuse) ∨
    (r ≠ 0 ∧ hostWrite r v s = .next s) := by
  by_cases h : r = 0
  · cases hd : decodeWord (v.extractLsb' 0 8) with
    | ok i => exact .inl ⟨h, i, rfl, by simp [hostWrite, h, hd]⟩
    | error e => exact .inr (.inl ⟨h, ⟨e, rfl⟩, by simp [hostWrite, h, hd]⟩)
  · exact .inr (.inr ⟨h, by simp [hostWrite, h]⟩)

/-- An input always has a next state: the machine stops at none. -/
theorem applyInput_next (i : Input) (s : State) : ∃ t, applyInput i s = .next t := by
  cases i with
  | write r v =>
    rcases hostWrite_cases r v s with ⟨_, j, _, h⟩ | ⟨_, _, h⟩ | ⟨_, h⟩
    · rcases exec_cases j s with ⟨_, _, h'⟩ | ⟨_, h'⟩
      · exact ⟨_, h.trans h'⟩
      · exact ⟨_, h.trans h'⟩
    · exact ⟨_, h⟩
    · exact ⟨_, h⟩
  | read r => exact ⟨_, rfl⟩
  | reset ok => exact ⟨_, rfl⟩

/-! ### One step of the machine -/

/-- A step with no host event pending is the sequencer's. -/
theorem stepWith_quiet (p : Params) {s : State} (h : s.inputs = []) : stepWith p s = sequencerStep p s := by
  simp [stepWith, h]

/-- A due host event lands. -/
theorem stepWith_due (p : Params) {s : State} {e : HostEvent} {rest : List HostEvent} (h : s.inputs = e :: rest)
    (hd : e.arrival.due s.busy = true) : stepWith p s = applyInput e.input { s with inputs := rest } := by
  simp [stepWith, h, hd]

/-- A host event that is not due lets the sequencer step. -/
theorem stepWith_waiting (p : Params) {s : State} {e : HostEvent} {rest : List HostEvent} (h : s.inputs = e :: rest)
    (hd : e.arrival.due s.busy = false) :
    stepWith p s = sequencerStep p { s with inputs := tickInputs s.inputs } := by
  simp [stepWith, h, hd]

/-- All that a step of the machine can be: an input landing, or a step of the sequencer. -/
theorem stepWith_cases (p : Params) (s : State) :
    (∃ e rest, s.inputs = e :: rest ∧ e.arrival.due s.busy = true ∧
      stepWith p s = applyInput e.input { s with inputs := rest }) ∨
    ∃ l, stepWith p s = sequencerStep p { s with inputs := l } := by
  cases h : s.inputs with
  | nil => exact .inr ⟨[], by rw [stepWith_quiet p h, ← h]⟩
  | cons e rest =>
    cases hd : e.arrival.due s.busy with
    | true => exact .inl ⟨e, rest, rfl, hd, stepWith_due p h hd⟩
    | false => exact .inr ⟨_, stepWith_waiting p h hd⟩

/-! ### Runs -/

@[simp] theorem runWith_zero (p : Params) (s : State) : runWith p 0 s = .next s := rfl

theorem runWith_succ {p : Params} {s t : State} (h : stepWith p s = .next t) (k : Nat) :
    runWith p (k + 1) s = runWith p k t := by
  simp [runWith, h]

/-- A run in two parts. -/
theorem runWith_add {p : Params} {s t : State} {m : Nat} (h : runWith p m s = .next t) (n : Nat) :
    runWith p (m + n) s = runWith p n t := by
  induction m generalizing s with
  | zero =>
    cases h
    rw [Nat.zero_add]
  | succ m ih =>
    rw [Nat.add_right_comm]
    cases hs : stepWith p s with
    | next u => rw [runWith_succ hs] at h ⊢; exact ih h
    | fault r => simp [runWith, hs] at h
    | refused r => simp [runWith, hs] at h

/-- A run of an accepted operation. -/
theorem issueThenRun_of_exec {p : Params} {i : Instr} {s t : State} (h : exec i s = .next t) (k : Nat) :
    issueThenRun p i k s = runWith p k t := by
  simp [issueThenRun, h]

end Sys2Proof.Machine
end

