-- ==== Sys2Proof/Laws/Decoder.lean ====
section
/-! SUPPORT. The decode's functions against the formulas of 42_frame_decoder.md, and the conversion's against those of
43_reading.md: lists and folds on the one side, sums over the forty slots and the eight bits on the other. -/

namespace Sys2Proof.Machine

theorem lowIndex_bitSlot (x : Vector Nat 82) (k : Fin 40) : x[lowIndex (bitSlot k)] = lowCount x k := rfl

theorem highIndex_bitSlot (x : Vector Nat 82) (k : Fin 40) : x[highIndex (bitSlot k)] = highCount x k := rfl

/-- `SUMLOW` is the sum of the rule. -/
theorem sumLowOf_eq (x : Vector Nat 82) : sumLowOf x = specSumLow x := by
  simp only [sumLowOf, lowIndex_bitSlot, specSumLow]
  exact (Fin.sum_univ_def _).symm

/-- `THRESH` is the truncated mean. -/
theorem threshOf_eq (x : Vector Nat 82) : threshOf x = specSumLow x / 40 := by rw [threshOf, sumLowOf_eq]

/-- A data bit is the comparison of the rule. -/
theorem dataBit_eq (x : Vector Nat 82) (k : Fin 40) : dataBit x k = decide (specBit x k = 1) := by
  simp only [dataBit, highIndex_bitSlot, threshOf_eq, specBit]
  by_cases h : highCount x k ≥ specSumLow x / 40 <;> simp [h]

theorem specBit_eq (x : Vector Nat 82) (k : Fin 40) : specBit x k = (dataBit x k).toNat := by
  rw [dataBit_eq]
  simp only [specBit]
  split <;> rfl

/-- Eight bits appended one after the other, as a number. -/
theorem packBits_toNat (f : Fin 8 → Bool) :
    ((List.finRange 8).map f).foldl appendBit (0 : Byte) =
      BitVec.ofNat 8 (∑ i : Fin 8, (f i).toNat * 2 ^ (7 - i.val)) := by
  simp only [Fin.sum_univ_eight, List.finRange_succ, List.finRange_zero, List.map, List.foldl]
  generalize f 0 = b0
  revert b0
  simp only [Fin.reduceSucc, Fin.isValue]
  generalize f 1 = b1
  generalize f 2 = b2
  generalize f 3 = b3
  generalize f 4 = b4
  generalize f 5 = b5
  generalize f 6 = b6
  generalize f 7 = b7
  revert b1 b2 b3 b4 b5 b6 b7
  decide

/-- A byte is the sum of the rule. -/
theorem packByte_eq (x : Vector Nat 82) (j : Fin 5) : packByte x j = specByte x j := by
  simp only [packByte, packBits_toNat, specByte, specBit_eq]
  rfl

/-- The bytes of a capture are those of the rule. -/
theorem packBytes_eq (x : Vector Nat 82) : packBytes x = specBytes x := by
  simp only [packBytes, specBytes, packByte_eq]

/-- `c16` does not wrap. -/
theorem checksum16_toNat (q : Vector Byte 5) :
    (checksum16 q).toNat = q[0].toNat + q[1].toNat + q[2].toNat + q[3].toNat := by
  have h0 := q[0].isLt
  have h1 := q[1].isLt
  have h2 := q[2].isLt
  have h3 := q[3].isLt
  simp only [checksum16, BitVec.toNat_add, BitVec.toNat_setWidth]
  omega

/-- The computed checksum is the low 8 bits of the sum. -/
theorem computedChecksum_eq (q : Vector Byte 5) : computedChecksum q = specChecksum q := by
  apply BitVec.eq_of_toNat_eq
  simp only [computedChecksum, specChecksum, BitVec.extractLsb'_toNat, checksum16_toNat, BitVec.toNat_ofNat,
    Nat.shiftRight_zero, Nat.reducePow, Nat.mod_mod]

/-- The checksum relation. -/
theorem checksumOk_iff (q : Vector Byte 5) : checksumOk q = true ↔ q[4] = specChecksum q := by
  simp [checksumOk, expectedChecksum, computedChecksum_eq]

/-- The magnitude fits its 15 bits. -/
theorem magnitude_lt (a b : Byte) : (a.toNat &&& 0x7F) * 256 + b.toNat < 2 ^ 15 := by
  have ha : a.toNat &&& 0x7F ≤ 0x7F := Nat.and_le_right
  have hb := b.isLt
  omega

end Sys2Proof.Machine
end

