-- ==== Sys2Proof/Laws/PerInstr.lean ====
section
/-! SUPPORT. Statements about every operation as syntax, one lemma per constructor. -/

namespace Sys2Proof.Laws.EncodeAssigned

/-- The word of the operation passes all four checks of 30_encoding.md R67, and its fields are those of the table. -/
def Statement (i : Instr) : Prop := (Op8.ofWord (encode i)).wellFormed = true ∧ Op8.ofWord (encode i) = i.fields

theorem isLow : Statement .isLow := ⟨by decide, by decide⟩
theorem isHigh : Statement .isHigh := ⟨by decide, by decide⟩
theorem setLow : Statement .setLow := ⟨by decide, by decide⟩
theorem setHigh : Statement .setHigh := ⟨by decide, by decide⟩
theorem setMode (d : Direction) : Statement (.setMode d) := by cases d <;> exact ⟨by decide, by decide⟩
theorem capture : Statement .capture := ⟨by decide, by decide⟩
theorem decode : Statement .decode := ⟨by decide, by decide⟩
theorem convert : Statement .convert := ⟨by decide, by decide⟩
theorem read : Statement .read := ⟨by decide, by decide⟩

end Sys2Proof.Laws.EncodeAssigned
end

