-- ==== Sys2Proof/Laws/Reading.lean ====
section
/-! SUPPORT. What the rounding rules have in common: a value of the format rounds to itself and to nothing else, and
the three nearest rules answer a nearest value, as 43_reading.md R133 says. -/

namespace Sys2Proof

/-- A value of the format is the only one nearest to itself. -/
theorem FloatFmt.isNearest_of_holds_iff {f : FloatFmt} {q v : ℚ} (h : f.Holds q) : f.IsNearest q v ↔ v = q := by
  constructor
  · intro hv
    have := hv.2 q h
    rw [sub_self, abs_zero] at this
    exact (sub_eq_zero.1 (abs_nonpos_iff.1 this)).symm
  · rintro rfl
    exact ⟨h, fun w _ => by rw [sub_self, abs_zero]; exact abs_nonneg _⟩

theorem FloatFmt.isFloor_of_holds_iff {f : FloatFmt} {q v : ℚ} (h : f.Holds q) : f.IsFloor q v ↔ v = q :=
  ⟨fun hv => le_antisymm hv.2.1 (hv.2.2 q h le_rfl), by rintro rfl; exact ⟨h, le_rfl, fun _ _ hw => hw⟩⟩

theorem FloatFmt.isCeil_of_holds_iff {f : FloatFmt} {q v : ℚ} (h : f.Holds q) : f.IsCeil q v ↔ v = q :=
  ⟨fun hv => le_antisymm (hv.2.2 q h le_rfl) hv.2.1, by rintro rfl; exact ⟨h, le_rfl, fun _ _ hw => hw⟩⟩

/-- Under every rounding rule a value of the format is rounded to itself. -/
theorem FloatFmt.isRounded_of_holds_iff {f : FloatFmt} {q v : ℚ} (h : f.Holds q) : f.IsRounded q v ↔ v = q := by
  unfold FloatFmt.IsRounded
  split
  · simp only [isNearest_of_holds_iff h]
    exact ⟨And.left, fun e => ⟨e, fun w hw hn => absurd (hw.trans e.symm) hn⟩⟩
  · simp only [isNearest_of_holds_iff h]
    exact ⟨And.left, fun e => ⟨e, fun w hw => by rw [hw, e]⟩⟩
  · simp only [isNearest_of_holds_iff h]
    exact ⟨And.left, fun e => ⟨e, fun w hw => by rw [hw, e]⟩⟩
  · split
    · exact isFloor_of_holds_iff h
    · exact isCeil_of_holds_iff h
  · exact isFloor_of_holds_iff h
  · exact isCeil_of_holds_iff h

/-- The three nearest rules answer a nearest value. -/
theorem FloatFmt.isNearest_of_isRounded {f : FloatFmt} {q v : ℚ}
    (hr : f.rounding = .nearestEven ∨ f.rounding = .nearestAway ∨ f.rounding = .nearestZero)
    (h : f.IsRounded q v) : f.IsNearest q v := by
  unfold FloatFmt.IsRounded at h
  rcases hr with hr | hr | hr <;> rw [hr] at h <;> exact h.1

end Sys2Proof
end

