-- ==== Sys2Proof/Laws/Sequencer.lean ====
section
/-! SUPPORT. All that a step of the sequencer can do, one lemma per sub-machine (44_sensor_session.md R152), so that
later proofs cite these and never unfold the step. -/

namespace Sys2Proof.Machine

/-- A counted poll: the counter goes up, and past `MAX_POLL` ReadTimeout is raised. -/
theorem countPoll_cases (m : Nat) (s : State) :
    let i := pollIndex s.pos.slot s.pos.phase
    (s.counter i + 1 ≤ m ∧ countPoll m s = s.setCounter i (s.counter i + 1)) ∨
    (m < s.counter i + 1 ∧ countPoll m s = (s.setCounter i (s.counter i + 1)).raiseError .readTimeout) := by
  intro i
  by_cases h : s.counter i + 1 ≤ m
  · exact .inl ⟨h, by simp only [countPoll, counter_setCounter_same, i] at h ⊢; rw [if_neg (by omega)]⟩
  · exact .inr ⟨by omega, by simp only [countPoll, counter_setCounter_same, i] at h ⊢; rw [if_pos (by omega)]⟩

/-- The end of a loop, in its four outcomes. -/
theorem endLoop_cases (s : State) :
    (s.pos.phase = .low ∧ endLoop s = .next { s with pos := { s.pos with phase := .high } }) ∨
    (s.pos.phase = .high ∧ ∃ n : Fin 41, n.val = s.pos.slot.val + 1 ∧
      endLoop s = .next { s with pos := { s.pos with slot := n, phase := .low } }) ∨
    (s.pos.phase = .high ∧ s.pos.slot = 40 ∧ s.pos.curOp = .capture ∧
      endLoop s = .next (State.returnToIdle { s with flags := s.flags.captured })) ∨
    (s.pos.phase = .high ∧ s.pos.slot = 40 ∧ s.pos.curOp = .read ∧
      endLoop s = .next { s with
        flags := s.flags.captured, pos := { s.pos with st := .decoding, slot := 0, phase := .low } }) ∨
    (s.pos.phase = .high ∧ s.pos.slot = 40 ∧ (s.pos.curOp = .none ∨ s.pos.curOp = .decode) ∧
      endLoop s = .fault .noTransition) := by
  cases hp : s.pos.phase with
  | low => exact .inl ⟨rfl, by simp [endLoop, hp]⟩
  | high =>
    right
    by_cases hs : s.pos.slot.val < 40
    · exact .inl ⟨rfl, ⟨s.pos.slot.val + 1, by omega⟩, rfl, by simp [endLoop, hp, slotAdvance, hs]⟩
    · right
      have h40 : s.pos.slot = 40 := by apply Fin.ext; show s.pos.slot.val = 40; omega
      cases hc : s.pos.curOp <;> simp [endLoop, hp, slotAdvance, h40, captureComplete, hc]

/-- A poll step of a capture: one sample, then the count or the end of the loop. -/
theorem captureStep_cases (p : Params) (s : State) :
    (s.nextLevel = s.pos.phase.waitsOut ∧
      captureStep p s = .next (countPoll p.maxPoll (s.poll s.pos.phase.waitsOut))) ∨
    (s.nextLevel ≠ s.pos.phase.waitsOut ∧ captureStep p s = endLoop (s.poll s.pos.phase.waitsOut)) := by
  by_cases h : s.nextLevel = s.pos.phase.waitsOut
  · exact .inl ⟨h, by simp only [captureStep, h, if_true]⟩
  · exact .inr ⟨h, by simp only [captureStep, h, if_false]⟩

/-- A micro-step of the wake sequence, where `UPC` and `ST` are a row of the table. -/
theorem wakeStep_row {s : State} (h : s.pos.st = (microStep s.pos.upc).st) :
    wakeStep s = .next (((microStep s.pos.upc).op.run s).moveTo (microStep s.pos.upc).st' (microStep s.pos.upc).upc') := by
  simp only [wakeStep, h, if_true]

/-- A decode step: success to Idle or Done, or the Checksum error. -/
theorem decodeStep_cases (s : State) :
    let t := s.writeDecode
    (checksumOk t.bytes = true ∧ s.pos.curOp = .decode ∧ decodeStep s = .next t.returnToIdle) ∨
    (checksumOk t.bytes = true ∧ s.pos.curOp = .read ∧
      decodeStep s = .next { t with pos := { s.pos with st := .done } }) ∨
    (checksumOk t.bytes = true ∧ (s.pos.curOp = .none ∨ s.pos.curOp = .capture) ∧
      decodeStep s = .fault .noTransition) ∨
    (checksumOk t.bytes = false ∧
      decodeStep s = .next (t.raiseError (.checksum (expectedChecksum t.bytes) (computedChecksum t.bytes)))) := by
  intro t
  cases h : checksumOk t.bytes with
  | false => exact .inr (.inr (.inr ⟨rfl, if_neg (by simp only [t] at h; rw [h]; exact Bool.false_ne_true)⟩))
  | true =>
    have e : decodeStep s = decodeComplete t := if_pos h
    cases hc : s.pos.curOp <;> simp [e, decodeComplete, t, hc]

end Sys2Proof.Machine
end

