-- ==== Sys2Proof/Tests/Slice0.lean ====
section
/-! SUPPORT. Tests with results from outside the model (30_encoding.md R65, 95_test_vectors.md), the smoke test of
WellFormed, and a witness for the hypotheses of every statement that has some. -/

namespace Sys2Proof.Tests

open Sys2Proof.Machine

/-! ## WellFormed: an ill-formed word for each check -/

theorem smoke_unit_5_refused : Op8.unitAssigned ⟨5, 0, 0, 0⟩ = false ∧ Op8.wellFormed ⟨5, 0, 0, 0⟩ = false := by decide

theorem smoke_func_5_of_unit_0_refused :
    Op8.funcAssigned ⟨0, 5, 0, 0⟩ = false ∧ Op8.wellFormed ⟨0, 5, 0, 0⟩ = false := by decide

theorem smoke_func_1_of_unit_1_refused :
    Op8.funcAssigned ⟨1, 1, 0, 0⟩ = false ∧ Op8.wellFormed ⟨1, 1, 0, 0⟩ = false := by decide

theorem smoke_z_set_refused : Op8.zClear ⟨0, 0, 1, 0⟩ = false ∧ Op8.wellFormed ⟨0, 0, 1, 0⟩ = false := by decide

theorem smoke_operand_outside_set_mode_refused :
    Op8.operandAllowed ⟨1, 0, 0, 1⟩ = false ∧ Op8.wellFormed ⟨1, 0, 0, 1⟩ = false := by decide

theorem smoke_set_mode_out_accepted : Op8.wellFormed ⟨0, 4, 0, 1⟩ = true := by decide

/-! ## Decoding: the patterns of 30_encoding.md R65, bit 7 first -/

theorem test_decode_is_low : decodeWord 0b00000000 = .ok .isLow := by rfl
theorem test_decode_is_high : decodeWord 0b00000100 = .ok .isHigh := by rfl
theorem test_decode_set_low : decodeWord 0b00001000 = .ok .setLow := by rfl
theorem test_decode_set_high : decodeWord 0b00001100 = .ok .setHigh := by rfl
theorem test_decode_set_mode_in : decodeWord 0b00010000 = .ok (.setMode .input) := by rfl
theorem test_decode_set_mode_out : decodeWord 0b00010001 = .ok (.setMode .output) := by rfl
theorem test_decode_capture : decodeWord 0b00100000 = .ok .capture := by rfl
theorem test_decode_decode : decodeWord 0b01000000 = .ok .decode := by rfl
theorem test_decode_convert : decodeWord 0b01100000 = .ok .convert := by rfl
theorem test_decode_read : decodeWord 0b10000000 = .ok .read := by rfl

/-- V-ADM-1, V-ADM-2: a word of each reserved class (30_encoding.md R67). -/
theorem test_decode_reserved_words :
    decodeWord 0x01 = .error .operand ∧ decodeWord 0x02 = .error .zSet ∧ decodeWord 0x14 = .error .func ∧
    decodeWord 0x21 = .error .operand ∧ decodeWord 0x24 = .error .func ∧ decodeWord 0xA0 = .error .unit ∧
    decodeWord 0xFF = .error .zSet := ⟨rfl, rfl, rfl, rfl, rfl, rfl, rfl⟩

/-- The rest of the bytes is left over, and no byte is no word. -/
theorem test_decode_bytes : decodeBytes [0x80, 0x55] = .ok (.read, [0x55]) ∧ decodeBytes [] = .error .noWord :=
  ⟨rfl, rfl⟩

theorem test_decode_table_word : decodeTableWord 8 0x11 = some (.setMode .output) ∧ decodeTableWord 8 0xA0 = none :=
  ⟨rfl, rfl⟩

/-! ## Small states -/

/-- The next state, if there is one. -/
def nextOf : Result → Option State
  | .next t => some t
  | .fault _ => none
  | .refused _ => none

/-- Idle, with the given pin and line. -/
def idleWith (pin : PinCell) (line : List Level) : State := { State.reset with pin := pin, line := line }

/-- `MAX_POLL` and durations within their bounds. -/
def paramsWith (m : Nat) : Params := ⟨m, 10000, 1000, 30, 1, none⟩

/-- Capturing, in the given slot and phase, `c` in every counter. -/
def capturingAt (op : CurOp) (slot : Fin 41) (phase : Phase) (c : Nat) (line : List Level) : State :=
  { State.reset with
    pos := ⟨.capturing, 0, slot, phase, op⟩, counts := Vector.replicate 82 c, line := line }

/-- Counts with `first` in pair 0, `low` in the other low counts, and high counts that spell the bytes: `long` for a 1
bit, `short` for a 0 bit, first bit first. -/
def spelled (first low long short : Nat) (q : Vector Byte 5) : Vector Nat 82 :=
  Vector.ofFn fun i =>
    if i.val < 2 then first
    else if i.val % 2 = 0 then low
    else
      let k := i.val / 2 - 1
      if (q[k / 8]'(by omega)).getLsbD (7 - k % 8) then long else short

/-- Decoding, with the given counts. -/
def decodingWith (op : CurOp) (x : Vector Nat 82) : State :=
  { State.reset with
    pos := ⟨.decoding, 0, 0, .low, op⟩, flags := ⟨false, true, false, false, false⟩, counts := x }

/-- Idle with a Reading. -/
def readingOf (q : Vector Byte 5) : State :=
  { State.reset with bytes := q, flags := ⟨false, false, true, false, false⟩ }

/-- Idle with counts. -/
def idleWithCounts : State := { State.reset with flags := ⟨false, true, false, false, false⟩ }

/-- READ's wake sequence at the given micro-step. -/
def wakingAt (st : SessionState) (upc : Fin 8) : State := { State.reset with pos := ⟨st, upc, 0, .low, .read⟩ }

/-- What a test looks at of an outcome. -/
def seen {α : Type} (r : Result) (f : State → α) : Option α := (nextOf r).map f

/-! ## DataPin: vectors V-PIN-1 to V-PIN-10 of 95_test_vectors.md -/

/-- V-PIN-1. -/
theorem test_is_low_on_a_low_line :
    seen (exec .isLow (idleWith ⟨.input, .high, false⟩ [.low])) (fun t => (t.pin, t.history, t.pinImage)) =
      some (⟨.input, .high, true⟩, [.sample .low], 0x00000006) := by decide

/-- V-PIN-2. -/
theorem test_is_low_on_a_high_line :
    seen (exec .isLow (idleWith ⟨.input, .high, true⟩ [.high])) (fun t => (t.pin, t.history, t.pinImage)) =
      some (⟨.input, .high, false⟩, [.sample .high], 0x00000002) := by decide

/-- V-PIN-3. -/
theorem test_is_high_on_a_high_line :
    seen (exec .isHigh (idleWith ⟨.input, .high, false⟩ [.high])) (fun t => (t.pin, t.history, t.pinImage)) =
      some (⟨.input, .high, true⟩, [.sample .high], 0x00000006) := by decide

/-- V-PIN-4. -/
theorem test_is_high_on_a_low_line :
    seen (exec .isHigh (idleWith ⟨.input, .high, true⟩ [.low])) (fun t => (t.pin, t.history, t.pinImage)) =
      some (⟨.input, .high, false⟩, [.sample .low], 0x00000002) := by decide

/-- V-PIN-5. -/
theorem test_set_low_as_output :
    seen (exec .setLow (idleWith ⟨.output, .high, false⟩ [])) (fun t => (t.pinImage, t.history, t.driven)) =
      some (0x00000001, [.drive .low], some .low) := by decide

/-- V-PIN-6. -/
theorem test_set_low_as_input :
    seen (exec .setLow (idleWith ⟨.input, .high, false⟩ [])) (fun t => (t.pinImage, t.history, t.driven)) =
      some (0x00000000, [.drive .low], none) := by decide

/-- V-PIN-7. -/
theorem test_set_high_as_output :
    seen (exec .setHigh (idleWith ⟨.output, .low, false⟩ [])) (fun t => (t.pinImage, t.history, t.driven)) =
      some (0x00000003, [.drive .high], some .high) := by decide

/-- V-ADM-9: SET_HIGH clears `CMD_REFUSED` and leaves ERR alone. -/
theorem test_set_high_leaves_err :
    seen (exec .setHigh { State.reset with flags := ⟨false, false, false, false, true⟩, err := ⟨.readTimeout, 0, 0⟩ })
      (fun t => (t.flags.cmdRefused, t.errImage)) = some (false, 0x00000002) := by decide

/-- V-PIN-10. -/
theorem test_set_mode_out_drives_at_once :
    seen (exec (.setMode .output) (idleWith ⟨.input, .low, false⟩ [])) (fun t => (t.pinImage, t.history, t.driven)) =
      some (0x00000001, [.mode .output], some .low) := by decide

/-- V-PIN-9. -/
theorem test_set_mode_in :
    seen (exec (.setMode .input) (idleWith ⟨.output, .high, false⟩ [])) (fun t => (t.pinImage, t.history, t.driven)) =
      some (0x00000002, [.mode .input], none) := by decide

/-! ## The composites and CONVERT -/

/-- V-ST-3. -/
theorem test_capture_accepted : seen (exec .capture State.reset) State.statusImage = some 0x20000401 := by decide

/-- V-CAP-4d, its sixth poll: with `MAX_POLL = 5` a counter of 5 times out on the next low sample. -/
theorem test_capture_times_out :
    seen (sequencerStep (paramsWith 5) (capturingAt .capture 0 .low 5 [.low]))
      (fun t => (t.counts[0], t.errImage, t.statusImage)) = some (6, 0x00000002, 0x00000000) := by decide

/-- V-DEC-2: the mean 2039 div 40 is 50, and a high count of 50 is a 1 bit. -/
theorem test_decode_truncates_and_compares :
    seen (sequencerStep (paramsWith 1000)
      (decodingWith .decode ((spelled 80 50 50 49 #v[0x01, 0x90, 0x00, 0xFA, 0x8B]).set 80 89)))
      (fun t => (t.sumLow, t.thresh, t.bytes, t.statusImage)) =
      some (2039, 50, #v[0x01, 0x90, 0x00, 0xFA, 0x8B], 0x00000008) := by decide +kernel

/-- V-DEC-10: a Checksum error carries byte 4, then the computed sum. -/
theorem test_decode_checksum_error :
    seen (sequencerStep (paramsWith 20) (decodingWith .read (spelled 8 4 7 2 #v[0x02, 0x8C, 0x00, 0x5F, 0xEE])))
      (fun t => (t.sumLow, t.thresh, t.bytes, t.errImage, t.statusImage)) =
      some (160, 4, #v[0x02, 0x8C, 0x00, 0x5F, 0xEE], 0x00EDEE03, 0x00000000) := by decide +kernel

/-- V-CNV-1: HUM and TEMP read the result. -/
theorem test_convert_positive :
    seen (exec .convert (readingOf #v[0x02, 0x8C, 0x01, 0x5F, 0xEE]))
      (fun t => (t.registerImage 4, t.registerImage 5, t.statusImage)) =
      some (0x0000028C, 0x0000015F, 0x00000010) := by decide

/-- V-CNV-2. -/
theorem test_convert_negative :
    seen (exec .convert (readingOf #v[0x02, 0x8C, 0x80, 0x65, 0x73]))
      (fun t => (t.registerImage 4, t.registerImage 5, t.result.tempNeg, t.result.tempMag)) =
      some (0x0000028C, 0x00008065, true, 101) := by decide

/-- The humidity 25.5 of V-CNV-10 is a binary fraction: with 24 significant bits it is itself, whatever the rounding. -/
theorem test_float_humidity_of_a_binary_fraction (r : Rounding) (v : ℚ) :
    (convert #v[0x00, 0xFF, 0x00, 0xFF, 0x00]).IsFloatHumidity ⟨24, -149, 104, r, true⟩ v ↔ v = 51 / 2 := by
  have e : (convert #v[0x00, 0xFF, 0x00, 0xFF, 0x00]).humidity = 51 / 2 := by
    have h : (convert #v[0x00, 0xFF, 0x00, 0xFF, 0x00]).humRaw.toNat = 255 := by decide
    norm_num [Results.humidity, Results.humidityTenths, h]
  rw [Results.IsFloatHumidity, e]
  exact FloatFmt.isRounded_of_holds_iff ⟨51, -1, by norm_num, by norm_num, by norm_num, by norm_num⟩

/-- A half between the values 0 and 1 of a one-bit format goes to the even one, or away from zero, as the rule says. -/
theorem test_float_tie :
    FloatFmt.IsRounded ⟨1, 0, 0, .nearestEven, true⟩ (1 / 2) 0 ∧
    FloatFmt.IsRounded ⟨1, 0, 0, .nearestAway, true⟩ (1 / 2) 1 := by
  have vals : ∀ (r : Rounding) (w : ℚ), FloatFmt.Holds ⟨1, 0, 0, r, true⟩ w → w = -1 ∨ w = 0 ∨ w = 1 := by
    rintro r w ⟨m, e, hm, h1, h2, rfl⟩
    obtain rfl : e = 0 := le_antisymm h2 h1
    have hm' := abs_lt.1 hm
    have : m = -1 ∨ m = 0 ∨ m = 1 := by simp at hm'; omega
    rcases this with rfl | rfl | rfl <;> simp
  have near : ∀ (r : Rounding) (v : ℚ), v = 0 ∨ v = 1 → FloatFmt.IsNearest ⟨1, 0, 0, r, true⟩ (1 / 2) v := by
    rintro r v (rfl | rfl)
    · exact ⟨⟨0, 0, by norm_num⟩, fun w hw => by rcases vals r w hw with rfl | rfl | rfl <;> norm_num [abs_of_pos]⟩
    · exact ⟨⟨1, 0, by norm_num⟩, fun w hw => by
        rcases vals r w hw with rfl | rfl | rfl <;> norm_num [abs_of_pos, abs_of_neg]⟩
  refine ⟨⟨near _ _ (.inl rfl), fun _ _ _ => ⟨0, 0, by norm_num⟩⟩, near _ _ (.inr rfl), fun w hw => ?_⟩
  rcases vals _ w hw.1 with rfl | rfl | rfl <;> norm_num

/-- V-ST-1, V-ADM-10. -/
theorem test_read_accepted :
    seen (exec .read { State.reset with err := ⟨.checksum, 0xEE, 0xED⟩ }) (fun t => (t.statusImage, t.errImage)) =
      some (0x80000101, 0x00000000) := by decide

/-- 44_sensor_session.md R144, micro-step 7: the line is released and the capture entered in one step. -/
theorem test_read_releases_the_line :
    seen (sequencerStep (paramsWith 20) { wakingAt .ackWait 7 with pin := ⟨.output, .high, false⟩ })
      (fun t => (t.statusImage, t.pinImage, t.history)) = some (0x80000401, 0x00000002, [.mode .input]) := by decide

/-! ## Refusals, register images, reset -/

/-- V-ADM-1: the word `0x01` is refused with no event. -/
theorem test_reserved_word_refused :
    seen (hostWrite 0 0x01 State.reset) (fun t => (t.statusImage, t.history)) = some (0x00000020, []) := by decide

/-- V-ADM-5: READ is refused while a capture runs, which goes on. -/
theorem test_busy_word_refused :
    seen (hostWrite 0 0x80 (capturingAt .read 5 .high 0 [])) (fun t => (t.flags.cmdRefused, t.pos)) =
      some (true, ⟨.capturing, 0, 5, .high, .read⟩) := by decide

/-- V-ST-2. -/
theorem test_status_in_slot_5 : (capturingAt .read 5 .high 0 []).statusImage = 0x80450401 := by decide

/-- V-RST-2 and V-ADM-8: after a reset without a pin, and after a word presented then. -/
theorem test_init_failed :
    (State.resetWith false).statusImage = 0x00000702 ∧ (State.resetWith false).errImage = 0x00000001 ∧
    seen (hostWrite 0 0x80 (State.resetWith false)) State.statusImage = some 0x00000722 := by decide

/-- The first step of a placed word runs it (V-PIN-8 through `step`). -/
theorem test_step_runs_the_word :
    seen (step (State.reset.withFetchWord 8 0x11)) (fun t => (t.pinImage, t.history, t.inputs)) =
      some (0x00000003, [.mode .output], []) := by decide

/-! ## Witnesses: states that meet the hypotheses of the statements, clause by clause -/

/-- The port is open after reset: the hypothesis of every statement about an operation of DataPin, CAPTURE and READ. -/
theorem witness_admits : State.reset.Admits := ⟨rfl, rfl⟩

theorem witness_ReservedWordsAreRefused : decodeWord (BitVec.extractLsb' 0 8 (0x00000024 : HostWord)) = .error .func := rfl

/-- An admitted word of each kind, and a word that is not. -/
theorem witness_WordAcceptedExactlyUnderAdmission :
    (State.reset.Admits ∧ State.reset.busy = false ∧ decodeWord 0x20 = .ok .capture) ∧
    (idleWithCounts.Admits ∧ decodeWord 0x40 = .ok .decode ∧ idleWithCounts.flags.countsValid = true) ∧
    (State.resetWith false).flags.initFail = true := ⟨⟨⟨rfl, rfl⟩, rfl, rfl⟩, ⟨⟨rfl, rfl⟩, rfl, rfl⟩, rfl⟩

/-- A due write of READ's word, at once and when idle. -/
theorem witness_StepRunsThePresentedOperation :
    (State.reset.withFetchWord 8 0x80).inputs = [⟨.after 0, .write 0 0x80⟩] ∧
    Arrival.due State.reset.busy (.after 0) = true ∧ Arrival.due State.reset.busy .whenIdle = true ∧
    decodeWord (BitVec.extractLsb' 0 8 (0x80 : HostWord)) = .ok .read := ⟨rfl, rfl, rfl, rfl⟩

/-- A state for each clause: nothing pending, an event one step away, a program line while busy. -/
theorem witness_StepIsTheSequencersWhenNoEventIsDue :
    State.reset.inputs = [] ∧
    { State.reset with inputs := [⟨.after 1, .read 1⟩] }.inputs = [⟨.after (0 + 1), .read 1⟩] ∧
    ({ wakingAt .wakeHigh 0 with inputs := [programLine .read] }.inputs = [⟨.whenIdle, .write 0 0x80⟩] ∧
      (wakingAt .wakeHigh 0).busy = true) := ⟨rfl, rfl, rfl, rfl⟩

theorem witness_PollsComplementOnOneSampleIndependentAcross :
    (idleWith ⟨.input, .high, false⟩ [.high, .low]).Admits ∧
    (idleWith ⟨.input, .high, false⟩ [.high, .low]).line = .high :: .low :: [] := ⟨⟨rfl, rfl⟩, rfl⟩

/-- With counts and without. -/
theorem witness_DecodeAcceptedOnlyWithCounts :
    (idleWithCounts.Admits ∧ idleWithCounts.flags.countsValid = true) ∧
    (State.reset.Admits ∧ State.reset.flags.countsValid = false) := ⟨⟨⟨rfl, rfl⟩, rfl⟩, ⟨rfl, rfl⟩, rfl⟩

/-- With a Reading, without, and in Done. -/
theorem witness_ConvertPublishesTheReadingOnce :
    ((readingOf #v[0, 0, 0, 0, 0]).Admits ∧ (readingOf #v[0, 0, 0, 0, 0]).flags.readingValid = true) ∧
    (State.reset.Admits ∧ State.reset.flags.readingValid = false) ∧
    { readingOf #v[0, 0, 0, 0, 0] with pos := ⟨.done, 0, 0, .low, .read⟩ }.pos.st = .done :=
  ⟨⟨⟨rfl, rfl⟩, rfl⟩, ⟨⟨rfl, rfl⟩, rfl⟩, rfl⟩

/-- A state for each operation's clause. -/
theorem witness_InvalidationCascadeByOperation :
    State.reset.Admits ∧ (idleWithCounts.Admits ∧ idleWithCounts.flags.countsValid = true) ∧
    ((readingOf #v[0, 0, 0, 0, 0]).Admits ∧ (readingOf #v[0, 0, 0, 0, 0]).flags.readingValid = true) :=
  ⟨⟨rfl, rfl⟩, ⟨⟨rfl, rfl⟩, rfl⟩, ⟨rfl, rfl⟩, rfl⟩

/-- A state for each row. -/
theorem witness_MicroStepsFollowTheTable :
    ((wakingAt .wakeHigh 0).pos.st = .wakeHigh ∧ (wakingAt .wakeHigh 0).pos.upc = 0) ∧
    ((wakingAt .wakeHigh 1).pos.st = .wakeHigh ∧ (wakingAt .wakeHigh 1).pos.upc = 1) ∧
    ((wakingAt .wakeHigh 2).pos.st = .wakeHigh ∧ (wakingAt .wakeHigh 2).pos.upc = 2) ∧
    ((wakingAt .startLow 3).pos.st = .startLow ∧ (wakingAt .startLow 3).pos.upc = 3) ∧
    ((wakingAt .startLow 4).pos.st = .startLow ∧ (wakingAt .startLow 4).pos.upc = 4) ∧
    ((wakingAt .ackWait 5).pos.st = .ackWait ∧ (wakingAt .ackWait 5).pos.upc = 5) ∧
    ((wakingAt .ackWait 6).pos.st = .ackWait ∧ (wakingAt .ackWait 6).pos.upc = 6) ∧
    ((wakingAt .ackWait 7).pos.st = .ackWait ∧ (wakingAt .ackWait 7).pos.upc = 7) := by decide

theorem witness_ReadDrivesTheWakeSequence : State.reset.Admits ∧ State.reset.inputs = [] := ⟨⟨rfl, rfl⟩, rfl⟩

/-- The three outcomes: the last counted poll, the poll that times out, the poll that ends the loop. -/
theorem witness_LowPhasePollCountsOrHandsOver :
    (let s := capturingAt .read 40 .low 4 [.low]
     s.pos.st = .capturing ∧ s.pos.phase = .low ∧ s.nextLevel = .low ∧ s.counts[80] + 1 ≤ (paramsWith 5).maxPoll) ∧
    (let s := capturingAt .capture 0 .low 5 [.low]
     s.pos.st = .capturing ∧ s.pos.phase = .low ∧ s.nextLevel = .low ∧ (paramsWith 5).maxPoll < s.counts[0] + 1) ∧
    (let s := capturingAt .capture 0 .low 5 [.high]
     s.pos.st = .capturing ∧ s.pos.phase = .low ∧ s.nextLevel = .high) := by decide

/-- The five outcomes: counted, timed out, the next slot (39 to 40), and the end for a CAPTURE and for a READ. -/
theorem witness_HighPhasePollCountsOrAdvances :
    (let s := capturingAt .read 40 .high 4 [.high]
     s.pos.st = .capturing ∧ s.pos.phase = .high ∧ s.nextLevel = .high ∧ s.counts[81] + 1 ≤ (paramsWith 5).maxPoll) ∧
    (let s := capturingAt .capture 40 .high 5 [.high]
     s.pos.st = .capturing ∧ s.pos.phase = .high ∧ s.nextLevel = .high ∧ (paramsWith 5).maxPoll < s.counts[81] + 1) ∧
    (let s := capturingAt .capture 39 .high 5 [.low]
     s.pos.st = .capturing ∧ s.pos.phase = .high ∧ s.nextLevel = .low ∧ (40 : Fin 41).val = s.pos.slot.val + 1) ∧
    (let s := capturingAt .capture 40 .high 5 [.low]
     s.pos.st = .capturing ∧ s.pos.phase = .high ∧ s.nextLevel = .low ∧ s.pos.slot = 40 ∧ s.pos.curOp = .capture) ∧
    (let s := capturingAt .read 40 .high 5 [.low]
     s.pos.st = .capturing ∧ s.pos.phase = .high ∧ s.nextLevel = .low ∧ s.pos.slot = 40 ∧ s.pos.curOp = .read) := by
  decide

/-- A stalled low loop of slot 0 and a stalled high loop of slot 40. -/
theorem witness_StalledLoopTimesOut :
    (let s := capturingAt .read 0 .low 0 (List.replicate 6 .low)
     s.pos.st = .capturing ∧ s.inputs = [] ∧ s.counts[0] ≤ (paramsWith 5).maxPoll ∧
     s.line = List.replicate ((paramsWith 5).maxPoll + 1 - s.counts[0]) .low ++ []) ∧
    (let s := capturingAt .capture 40 .high 5 [.high, .low]
     s.pos.st = .capturing ∧ s.inputs = [] ∧ s.counts[81] ≤ (paramsWith 5).maxPoll ∧
     s.line = List.replicate ((paramsWith 5).maxPoll + 1 - s.counts[81]) .high ++ [.low]) := by decide

theorem witness_EveryCaptureEnds :
    let s := capturingAt .capture 0 .low 0 []
    s.pos.st = .capturing ∧ s.pos.slot = 0 ∧ s.pos.phase = .low ∧ (s.pos.curOp = .capture ∨ s.pos.curOp = .read) ∧
      s.counts = Vector.replicate 82 0 ∧ s.inputs = [] := ⟨rfl, rfl, rfl, .inl rfl, rfl, rfl⟩

/-- A line that shows counts at the bound. -/
theorem witness_CaptureCountsTheRuns :
    let x : Vector Nat 82 := Vector.replicate 82 5
    let s := idleWith ⟨.input, .high, false⟩ (frameSamples x)
    s.Admits ∧ s.inputs = [] ∧ (∀ i : Fin 82, x[i] ≤ (paramsWith 5).maxPoll) ∧ s.line = frameSamples x ++ [] :=
  ⟨⟨rfl, rfl⟩, rfl, by simp [paramsWith], by simp [idleWith]⟩

/-- Counts whose decode succeeds: every low count 1, every high count 0, the all-zero frame. -/
theorem specBytes_zeros : specBytes (spelled 0 1 1 0 #v[0, 0, 0, 0, 0]) = #v[0, 0, 0, 0, 0] := by
  rw [← packBytes_eq]; decide +kernel

/-- Counts whose decode fails: every count 0. -/
theorem specBytes_ones : specBytes (Vector.replicate 82 0) = #v[0xFF, 0xFF, 0xFF, 0xFF, 0xFF] := by
  rw [← packBytes_eq]; decide +kernel

/-- A decode that succeeds, for a DECODE and for a READ, and one that fails, each with a next state. -/
theorem witness_DecodeStepFollowsItsFiveSteps :
    (let s := decodingWith .decode (spelled 0 1 1 0 #v[0, 0, 0, 0, 0])
     s.pos.st = .decoding ∧ (specBytes s.counts)[4] = specChecksum (specBytes s.counts) ∧ s.pos.curOp = .decode ∧
       (nextOf (sequencerStep (paramsWith 5) s)).isSome = true) ∧
    (let s := decodingWith .read (spelled 0 1 1 0 #v[0, 0, 0, 0, 0])
     s.pos.st = .decoding ∧ (specBytes s.counts)[4] = specChecksum (specBytes s.counts) ∧ s.pos.curOp = .read) ∧
    (let s := decodingWith .read (Vector.replicate 82 0)
     s.pos.st = .decoding ∧ (specBytes s.counts)[4] ≠ specChecksum (specBytes s.counts)) := by
  simp only [decodingWith, specBytes_zeros, specBytes_ones]
  exact ⟨⟨trivial, by decide, trivial, by decide +kernel⟩, ⟨trivial, by decide, trivial⟩, trivial, by decide⟩

theorem witness_ChecksumErrorCarriesBothBytes :
    let s := decodingWith .read (Vector.replicate 82 0)
    s.pos.st = .decoding ∧ s.flags.readingValid = false ∧
      (specBytes s.counts)[4] ≠ specChecksum (specBytes s.counts) := by
  simp only [decodingWith, specBytes_ones]
  decide

/-- Counts that spell the frame of V-DEC-1s. -/
theorem spelled_spells : Spells (spelled 8 4 7 2 #v[0x02, 0x8C, 0x01, 0x5F, 0xEE]) #v[0x02, 0x8C, 0x01, 0x5F, 0xEE] := by
  simp only [Spells, specBit_eq]
  decide +kernel

/-- A decode that ends with a Reading, and counts that spell a quintet. -/
theorem witness_SpelledQuintetDecodesToItself :
    (let s := decodingWith .decode (spelled 0 1 1 0 #v[0, 0, 0, 0, 0])
     s.pos.st = .decoding ∧ s.flags.readingValid = false ∧
       seen (sequencerStep (paramsWith 20) s) (fun t => t.flags.readingValid) = some true) ∧
    (let q : Vector Byte 5 := #v[0x02, 0x8C, 0x01, 0x5F, 0xEE]
     let s := decodingWith .read (spelled 8 4 7 2 q)
     s.pos.st = .decoding ∧ (s.pos.curOp = .decode ∨ s.pos.curOp = .read) ∧ q[4] = specChecksum q ∧
       Spells s.counts q) :=
  ⟨by decide +kernel, rfl, .inr rfl, by decide, spelled_spells⟩

/-- A decode step with a next state, its counts at most `MAX_POLL`: the hypotheses of
BitsArePackedMostSignificantFirst, FirstPairIsDiscarded and ThresholdIsTheTruncatedMean. -/
theorem witness_decode_step :
    let s := decodingWith .decode (Vector.replicate 82 20)
    s.pos.st = .decoding ∧ (nextOf (sequencerStep (paramsWith 20) s)).isSome = true ∧
      ∀ i : Fin 82, s.counts[i] ≤ (paramsWith 20).maxPoll :=
  ⟨rfl, by decide +kernel, by simp [decodingWith, paramsWith]⟩

/-- Low counts that sum to 39, and high counts just below the threshold. -/
theorem witness_DegenerateFramesDecodeAsTheSpecSays :
    (let s := decodingWith .read ((Vector.replicate 82 0).set 2 39)
     s.pos.st = .decoding ∧ s.pos.curOp = .read ∧ specSumLow s.counts < 40) ∧
    (let s := decodingWith .decode (spelled 0 2 1 1 #v[0, 0, 0, 0, 0])
     s.pos.st = .decoding ∧ s.pos.curOp = .decode ∧
       ∀ k : Fin 40, highCount s.counts k < specSumLow s.counts / 40) := by
  simp only [← sumLowOf_eq]
  decide +kernel

theorem witness_ConvertComputesTenths :
    (convert #v[0, 0, 0x7F, 0xFF, 0]).tempNeg = false ∧ (convert #v[0, 0, 0x80, 0, 0]).tempNeg = true := by decide

theorem witness_DoneStepPublishesAndReturns :
    { readingOf #v[0, 0, 0, 0, 0] with pos := ⟨.done, 0, 0, .low, .read⟩ }.pos.st = .done := rfl

/-- A result that is valid, a Reading that is valid, and neither. -/
theorem witness_GuardedRegistersReadOnlyWhileValid :
    { State.reset with flags := ⟨false, false, false, true, false⟩ }.flags.resultValid = true ∧
    (readingOf #v[0, 0, 0, 0, 0]).flags.readingValid = true ∧
    State.reset.flags.resultValid = false ∧ State.reset.flags.readingValid = false ∧
    { State.reset with bytes := #v[1, 2, 3, 4, 5] }.flags.readingValid = false ∧
    { State.reset with bytes := #v[1, 2, 3, 4, 5] }.readDraws = State.reset.readDraws := ⟨rfl, rfl, rfl, rfl, rfl, rfl⟩

theorem witness_HostAccessesHaveNoSideEffect :
    (Arrival.after 0).due State.reset.busy = true ∧
    { State.reset with inputs := [⟨.after 0, .read 4⟩] }.inputs = [⟨.after 0, .read 4⟩] ∧
    (13 ≠ 0 ∧ { State.reset with inputs := [⟨.after 0, .write 13 0⟩] }.inputs = [⟨.after 0, .write 13 0⟩]) :=
  ⟨rfl, rfl, by decide, rfl⟩

/-- InitFailed, with a step at which no reset is due: a word is presented, or a reset waits for its moment. -/
theorem witness_InitFailedIsLeftOnlyByReset :
    (let s := { State.resetWith false with inputs := [⟨.after 0, .write 0 0x80⟩] }
     Inv (paramsWith 5) s ∧ s.pos.st = .initFailed ∧
       stepWith (paramsWith 5) s = .next { State.resetWith false with flags := ⟨true, false, false, false, true⟩ } ∧
       ∀ a ok rest, s.inputs = ⟨a, .reset ok⟩ :: rest → a.due s.busy = false) ∧
    (let s := { State.resetWith false with inputs := [⟨.after 1, .reset true⟩] }
     s.pos.st = .initFailed ∧
       stepWith (paramsWith 5) s = .next { State.resetWith false with inputs := [⟨.after 0, .reset true⟩] } ∧
       ∀ a ok rest, s.inputs = ⟨a, .reset ok⟩ :: rest → a.due s.busy = false) := by
  refine ⟨⟨?_, rfl, rfl, by simp⟩, rfl, rfl, by rintro a ok rest ⟨⟩; rfl⟩
  constructor
  all_goals simp [State.resetWith, Position.restAt, Position.opFits, SessionState.waking, Flags.NoneValid, State.busy,
    SessionState.busy, State.Decoded]

/-- A READ after its micro-step 3 meets the invariant, and takes a step: the hypotheses of EveryStepKeepsTheInvariant
and NoStepStopsUnderTheInvariant. -/
theorem witness_invariant :
    let s := { wakingAt .startLow 4 with pin := ⟨.output, .low, false⟩ }
    Inv (paramsWith 5) s ∧ stepWith (paramsWith 5) s =
      .next { s with pos := ⟨.ackWait, 5, 0, .low, .read⟩, history := [.hold .startLow] } := by
  refine ⟨?_, rfl⟩
  constructor
  all_goals simp [wakingAt, State.reset, State.resetWith, Position.opFits, SessionState.waking, microStep,
    Flags.NoneValid, State.busy, State.Decoded]

/-- The premises of the bounds on counters, SUMLOW and THRESH: a capture that timed out, and a decode that succeeded. -/
theorem witness_invariant_bounds :
    (let s := { capturingAt .capture 0 .low 0 [] with
       pos := ⟨.idle, 0, 0, .low, .none⟩, err := ⟨.readTimeout, 0, 0⟩, counts := (Vector.replicate 82 0).set 0 6 }
     s.err.kind = .readTimeout ∧ Inv (paramsWith 5) s) ∧
    (let s := { readingOf #v[0, 0, 0, 0, 0] with counts := Vector.replicate 82 5, sumLow := 200, thresh := 5 }
     s.Decoded ∧ Inv (paramsWith 5) s) := by
  refine ⟨⟨rfl, ?_⟩, .inl rfl, ?_⟩
  · constructor
    case counts_le =>
      intro _ i
      simp only [Fin.getElem_fin, Vector.getElem_set, Vector.getElem_replicate]
      split <;> decide
    all_goals simp [capturingAt, State.reset, State.resetWith, Position.opFits, SessionState.waking, Flags.NoneValid,
      State.busy, SessionState.busy, State.Decoded]
  · constructor
    all_goals simp [readingOf, State.reset, State.resetWith, Position.restAt, Position.opFits, SessionState.waking,
      Flags.NoneValid, State.busy, SessionState.busy, State.Decoded, paramsWith, specChecksum]

/-- A poll of a capture while a reset waits for its moment: a step with an event, and no reset due. -/
theorem witness_EveryLineTouchIsOneEvent :
    let s := { capturingAt .capture 0 .low 0 [.low] with inputs := [⟨.after 1, .reset true⟩] }
    (nextOf (stepWith (paramsWith 5) s)).isSome = true ∧
      ∀ a ok rest, s.inputs = ⟨a, .reset ok⟩ :: rest → a.due s.busy = false :=
  ⟨by decide, by rintro a ok rest ⟨⟩; rfl⟩

theorem witness_CaptureStepsOnlySample :
    let s := capturingAt .read 40 .high 2 [.low]
    s.pos.st = .capturing ∧ (nextOf (sequencerStep (paramsWith 5) s)).isSome = true := ⟨rfl, by decide⟩

/-- The hypotheses of EveryReadReturnsToIdle and ReadAgreesWithItsExpansion. -/
theorem witness_read_admitted : State.reset.Admits ∧ State.reset.inputs = [] := ⟨⟨rfl, rfl⟩, rfl⟩

/-- The line of program P1. -/
theorem witness_ReadReproducesTheSpelledReading :
    let q : Vector Byte 5 := #v[0x02, 0x8C, 0x01, 0x5F, 0xEE]
    let x := spelled 8 4 7 2 q
    let s := idleWith ⟨.input, .high, false⟩ (frameSamples x)
    s.Admits ∧ s.inputs = [] ∧ (∀ i : Fin 82, x[i] ≤ (paramsWith 20).maxPoll) ∧ Spells x q ∧
      q[4] = specChecksum q ∧ s.line = frameSamples x ++ [] :=
  ⟨⟨rfl, rfl⟩, rfl, by decide +kernel, spelled_spells, by decide, by simp [idleWith]⟩

/-- Two states with different pasts and the same line. -/
theorem witness_ReadForgetsEverythingEarlier :
    let s := idleWith ⟨.output, .low, true⟩ [.low]
    let s' := { readingOf #v[1, 2, 3, 4, 5] with line := [.low] }
    s.Admits ∧ s'.Admits ∧ s.inputs = [] ∧ s'.inputs = [] ∧ s.line = s'.line ∧ s.lineDraws = s'.lineDraws ∧ s ≠ s' :=
  ⟨⟨rfl, rfl⟩, ⟨rfl, rfl⟩, rfl, rfl, rfl, rfl, by decide⟩

end Sys2Proof.Tests
end

section
/-! SUPPORT. What each operation's first step does to the flags and the error register, and the invalidation cascade
(10_state.md R28). -/

namespace Sys2Proof.Machine

/-! ### The flag updates, flag by flag -/

@[simp] theorem Flags.accepted_eq (f : Flags) :
    f.accepted = ⟨f.initFail, f.countsValid, f.readingValid, f.resultValid, false⟩ := rfl

@[simp] theorem Flags.cascadeCapture_eq (f : Flags) :
    f.cascadeCapture = ⟨f.initFail, false, false, false, f.cmdRefused⟩ := rfl

@[simp] theorem Flags.cascadeDecode_eq (f : Flags) :
    f.cascadeDecode = ⟨f.initFail, f.countsValid, false, false, f.cmdRefused⟩ := rfl

/-- The conversion's own writes cover the cascade of CONVERT. -/
@[simp] theorem Flags.converted_cascadeConvert (f : Flags) :
    f.cascadeConvert.converted = ⟨f.initFail, f.countsValid, false, true, f.cmdRefused⟩ := rfl

/-! ### The first step of the composites and of CONVERT -/

@[simp] theorem State.beginCapture_flags (s : State) : s.beginCapture.flags = s.flags.cascadeCapture := rfl
@[simp] theorem State.beginCapture_err (s : State) : s.beginCapture.err = ErrorReg.clear := rfl
@[simp] theorem State.beginRead_flags (s : State) : s.beginRead.flags = s.flags.cascadeCapture := rfl
@[simp] theorem State.beginRead_err (s : State) : s.beginRead.err = ErrorReg.clear := rfl
@[simp] theorem State.beginDecode_flags (s : State) : s.beginDecode.flags = s.flags.cascadeDecode := rfl
@[simp] theorem State.beginDecode_err (s : State) : s.beginDecode.err = ErrorReg.clear := rfl
@[simp] theorem State.cascadeThenConvert_flags (s : State) :
    s.cascadeThenConvert.flags = s.flags.cascadeConvert.converted := rfl
@[simp] theorem State.cascadeThenConvert_err (s : State) : s.cascadeThenConvert.err = ErrorReg.clear := rfl

/-- The five DataPin operations stay outside the cascade and outside admission's input checks (40_datapin.md R80 to
R84). -/
theorem dataPin_needs_nothing_and_keeps_flags_err {i : Instr}
    (hi : i ∈ [Instr.isLow, .isHigh, .setLow, .setHigh, .setMode .input, .setMode .output]) (s : State) :
    needs i s = true ∧ (effect i s).flags = s.flags ∧ (effect i s).err = s.err := by
  simp only [List.mem_cons, List.not_mem_nil, or_false] at hi
  rcases hi with rfl | rfl | rfl | rfl | rfl | rfl <;> exact ⟨rfl, rfl, rfl⟩

/-- Settles O17: an admitted operation's next state is its effect on the accepting state, and acceptance itself
changes none of the four registers. -/
theorem invalidationCascadeByOperation : Obligations.InvalidationCascadeByOperation := by
  intro s hs
  refine ⟨?captureRead, ?decode, ?convert, ?dataPin⟩
  case captureRead =>
    rintro i (rfl | rfl)
    · exact ⟨s.accept.beginCapture, exec_admitted hs rfl, by simp [ErrorReg.clear]⟩
    · exact ⟨s.accept.beginRead, exec_admitted hs rfl, by simp [ErrorReg.clear]⟩
  case decode =>
    intro hcounts
    exact ⟨s.accept.beginDecode, exec_admitted hs hcounts, by simp [ErrorReg.clear]⟩
  case convert =>
    intro hreading
    exact ⟨s.accept.cascadeThenConvert, exec_admitted hs hreading, by simp [ErrorReg.clear]⟩
  case dataPin =>
    intro i hi
    obtain ⟨hneeds, -, -⟩ := dataPin_needs_nothing_and_keeps_flags_err hi s
    obtain ⟨-, hflags, herr⟩ := dataPin_needs_nothing_and_keeps_flags_err hi s.accept
    exact ⟨effect i s.accept, exec_admitted hs hneeds, by simp [hflags, herr]⟩

end Sys2Proof.Machine
end

section
/-! SUPPORT. The packing of the forty data bits into the five bytes, and that a decode step writes them (20_memory.md
R46). -/

namespace Sys2Proof.Machine

/-! ### The bits of a byte being assembled -/

/-- Appending a bit is a left shift by one that drops bit 7 (42_frame_decoder.md R114). -/
theorem appendBit_eq_shiftConcat (byte : Byte) (b : Bool) : appendBit byte b = byte.shiftConcat b := by
  apply BitVec.eq_of_toNat_eq
  simp [appendBit, boolBit, BitVec.toNat_shiftConcat, Nat.shiftLeft_eq]

/-- The last bit appended is bit 0, the one before it bit 1, and so on. -/
theorem foldl_appendBit_getLsbD (bits : List Bool) {n : Nat} (hn : n < 8) :
    (bits.foldl appendBit (0 : Byte)).getLsbD n = bits.reverse.getD n false := by
  induction bits using List.reverseRecOn generalizing n with
  | nil => simp
  | append_singleton bits last ih =>
    rw [List.foldl_concat, appendBit_eq_shiftConcat, BitVec.getLsbD_shiftConcat, List.reverse_concat]
    cases n with
    | zero => simp
    | succ n => simpa [hn] using ih (n := n) (by omega)

/-- Bit `7 - i` of byte `j` is data bit `8*j + i`. -/
theorem packByte_getLsbD (x : Vector Nat 82) (j : Fin 5) (i : Fin 8) :
    (packByte x j).getLsbD (7 - i.val) = dataBit x (bitOfByte j i) := by
  have hreverse : 7 - (7 - i.val) = i.val := by omega
  rw [packByte, foldl_appendBit_getLsbD _ (by omega),
    List.getD_eq_getElem _ _ (by simp only [List.length_reverse, List.length_map, List.length_finRange]; omega)]
  simp [hreverse]

theorem packBytes_getElem (x : Vector Nat 82) (j : Fin 5) : (packBytes x)[j] = packByte x j := by
  fin_cases j <;> rfl

/-- Data bit `k` is bit `k mod 8`, counted from the first received, of byte `k div 8`. -/
theorem bitOfByte_div_mod (k : Fin 40) :
    bitOfByte ⟨k.val / 8, by omega⟩ ⟨k.val % 8, by omega⟩ = k := Fin.ext (Nat.div_add_mod k.val 8)

/-- 20_memory.md R46, for the packing itself. -/
theorem packBytes_getLsbD (x : Vector Nat 82) (k : Fin 40) :
    ((packBytes x)[k.val / 8]'(by omega)).getLsbD (7 - k.val % 8) = dataBit x k := by
  have hbyte := packBytes_getElem x ⟨k.val / 8, by omega⟩
  have hbit := packByte_getLsbD x ⟨k.val / 8, by omega⟩ ⟨k.val % 8, by omega⟩
  rw [bitOfByte_div_mod, ← hbyte] at hbit
  exact hbit

/-! ### What a decode step leaves -/

theorem sequencerStep_decoding (p : Params) {s : State} (h : s.pos.st = .decoding) :
    sequencerStep p s = decodeStep s := by
  simp only [sequencerStep, h]

/-- Past what every decode writes, a decode step that has a next state sets only the position and ERR. -/
theorem decodeStep_next {s t : State} (h : decodeStep s = .next t) :
    ∃ pos err, t = { s.writeDecode with pos := pos, err := err } := by
  rcases decodeStep_cases s with ⟨-, -, e⟩ | ⟨-, -, e⟩ | ⟨-, -, e⟩ | ⟨-, e⟩ <;> rw [e] at h <;> cases h
  · exact ⟨_, _, rfl⟩
  · exact ⟨_, _, rfl⟩
  · exact ⟨_, _, rfl⟩

/-- Settles O29: whichever way the decode step ends, its bytes are the packed ones, whose bits are the data bits. -/
theorem bitsArePackedMostSignificantFirst : Obligations.BitsArePackedMostSignificantFirst := by
  intro p s t hst hstep k
  rw [sequencerStep_decoding p hst] at hstep
  obtain ⟨pos, err, rfl⟩ := decodeStep_next hstep
  calc ((packBytes s.counts)[k.val / 8]'(by omega)).getLsbD (7 - k.val % 8)
      = dataBit s.counts k := packBytes_getLsbD s.counts k
    _ = decide (specBit s.counts k = 1) := dataBit_eq s.counts k

end Sys2Proof.Machine
end

section
/-! SUPPORT. The decoder of operation words against the opcode table: it inverts the encoder, and it accepts exactly the
words whose fields are assigned (30_encoding.md R61 to R67). -/

namespace Sys2Proof

/-! ### A word and its fields -/

@[simp] theorem Op8.toWord_ofWord (w : Byte) : (Op8.ofWord w).toWord = w := by
  calc (Op8.ofWord w).toWord
      = w.extractLsb' 5 3 ++ w.extractLsb' 2 3 ++ w.extractLsb' 1 1 ++ w.extractLsb' 0 1 := rfl
    _ = w.extractLsb' 0 8 := by
      rw [BitVec.extractLsb'_append_extractLsb'_eq_extractLsb' (show 5 = 2 + 3 from rfl),
        BitVec.extractLsb'_append_extractLsb'_eq_extractLsb' (show 2 = 1 + 1 from rfl),
        BitVec.extractLsb'_append_extractLsb'_eq_extractLsb' (show 1 = 0 + 1 from rfl)]
    _ = w := BitVec.extractLsb'_eq_self

theorem Op8.ofWord_unit_toNat (w : Byte) : (Op8.ofWord w).unit.toNat = w.toNat / 32 := by
  have hw := w.isLt
  simp only [Op8.ofWord, BitVec.extractLsb'_toNat, Nat.shiftRight_eq_div_pow]
  omega

theorem Op8.ofWord_func_toNat (w : Byte) : (Op8.ofWord w).func.toNat = w.toNat / 4 % 8 := by
  simp [Op8.ofWord, BitVec.extractLsb'_toNat, Nat.shiftRight_eq_div_pow]

theorem Op8.ofWord_z_toNat (w : Byte) : (Op8.ofWord w).z.toNat = w.toNat / 2 % 2 := by
  simp [Op8.ofWord, BitVec.extractLsb'_toNat, Nat.shiftRight_eq_div_pow]

theorem Op8.ofWord_d_toNat (w : Byte) : (Op8.ofWord w).d.toNat = w.toNat % 2 := by
  simp [Op8.ofWord, BitVec.extractLsb'_toNat]

/-- The four checks on a word's fields, as numbers. -/
theorem wellFormed_ofWord_iff (w : Byte) : (Op8.ofWord w).wellFormed = true ↔
    w.toNat / 32 ≤ 4 ∧ (if w.toNat / 32 = 0 then w.toNat / 4 % 8 ≤ 4 else w.toNat / 4 % 8 = 0) ∧
      w.toNat / 2 % 2 = 0 ∧ (w.toNat % 2 = 0 ∨ w.toNat / 32 = 0 ∧ w.toNat / 4 % 8 = 4) := by
  simp [Op8.wellFormed, Op8.unitAssigned, Op8.funcAssigned, Op8.zClear, Op8.operandAllowed, ← BitVec.toNat_inj,
    Op8.ofWord_unit_toNat, Op8.ofWord_func_toNat, Op8.ofWord_z_toNat, Op8.ofWord_d_toNat, and_assoc]

@[simp] theorem Direction.bit_ofBit (b : BitVec 1) : (Direction.ofBit b).bit = b := by
  revert b
  decide

/-! ### An accepted word is the encoding of its operation -/

theorem plainOp_eq_ok_iff {f : Op8} {i j : Instr} : plainOp f i = .ok j ↔ f.d = 0 ∧ i = j := by
  unfold plainOp
  split <;> simp_all

theorem decodeSole_eq_ok_iff {f : Op8} {i j : Instr} :
    decodeSole f i = .ok j ↔ f.func = 0 ∧ f.d = 0 ∧ i = j := by
  unfold decodeSole
  split <;> simp_all [plainOp_eq_ok_iff]

theorem fields_of_decodeDataPin {f : Op8} {i : Instr} (h : decodeDataPin f = .ok i) : i.fields = ⟨0, f.func, 0, f.d⟩ := by
  unfold decodeDataPin at h
  split at h
  case h_5 hfunc =>
    cases h
    simp [Instr.fields, ← BitVec.toNat_inj, hfunc]
  case h_6 => cases h
  all_goals
    next hfunc =>
      obtain ⟨hd, rfl⟩ := plainOp_eq_ok_iff.1 h
      simp [Instr.fields, ← BitVec.toNat_inj, hfunc, hd]

theorem fields_of_decodeFields {f : Op8} {i : Instr} (h : decodeFields f = .ok i) : i.fields = f := by
  obtain ⟨unit, func, z, d⟩ := f
  unfold decodeFields at h
  split at h
  · cases h
  next hset =>
    have hz : z = 0 := by dsimp only at hset; bv_omega
    dsimp only at h
    split at h
    case h_1 hunit =>
      rw [fields_of_decodeDataPin h]
      simp [← BitVec.toNat_inj, hunit, hz]
    case h_6 => cases h
    all_goals
      next hunit =>
        obtain ⟨hfunc, hd, rfl⟩ := decodeSole_eq_ok_iff.1 h
        simp_all [Instr.fields, ← BitVec.toNat_inj]

@[simp] theorem decodeFields_fields (i : Instr) : decodeFields i.fields = .ok i := by
  cases i with
  | setMode d => cases d <;> rfl
  | _ => rfl

@[simp] theorem ofWord_encode (i : Instr) : Op8.ofWord (encode i) = i.fields := by
  cases i with
  | setMode d => exact (Laws.EncodeAssigned.setMode d).2
  | _ => rfl

/-- Decoding is the inverse of encoding: a word means an operation exactly when it is that operation's word. -/
theorem decodeWord_eq_ok_iff {w : Byte} {i : Instr} : decodeWord w = .ok i ↔ w = encode i := by
  constructor
  · intro h
    rw [encode, fields_of_decodeFields h, Op8.toWord_ofWord]
  · rintro rfl
    rw [decodeWord, ofWord_encode, decodeFields_fields]

/-! ### The rows of the table -/

/-- A full mask compares the whole word. -/
theorem decodeWord_eq_ok_iff_masked (w : Byte) (i : Instr) : decodeWord w = .ok i ↔ w &&& 0xFF = encode i := by
  have hmask : w &&& 0xFF = w := BitVec.and_allOnes
  rw [decodeWord_eq_ok_iff, hmask]

/-- SET_MODE's mask leaves out the operand `D`. -/
theorem and_0xFE_eq_0x10_iff (w : Byte) : w &&& 0xFE = 0x10 ↔ w = 0x10 ∨ w = 0x11 := by
  revert w
  decide

theorem exists_eq_encode_setMode_iff (w : Byte) : (∃ d, w = encode (.setMode d)) ↔ w &&& 0xFE = 0x10 := by
  rw [and_0xFE_eq_0x10_iff]
  constructor
  · rintro ⟨d, rfl⟩
    cases d with
    | input => exact .inl rfl
    | output => exact .inr rfl
  · rintro (rfl | rfl)
    · exact ⟨.input, rfl⟩
    · exact ⟨.output, rfl⟩

theorem exists_eq_encode_iff (w : Byte) : (∃ i, w = encode i) ↔
    w ∈ [(0x00 : Byte), 0x04, 0x08, 0x0C, 0x10, 0x11, 0x20, 0x40, 0x60, 0x80] := by
  constructor
  · rintro ⟨i, rfl⟩
    cases i with
    | setMode d => cases d <;> decide
    | _ => decide
  · simp only [List.mem_cons, List.not_mem_nil, or_false]
    rintro (rfl | rfl | rfl | rfl | rfl | rfl | rfl | rfl | rfl | rfl)
    · exact ⟨.isLow, rfl⟩
    · exact ⟨.isHigh, rfl⟩
    · exact ⟨.setLow, rfl⟩
    · exact ⟨.setHigh, rfl⟩
    · exact ⟨.setMode .input, rfl⟩
    · exact ⟨.setMode .output, rfl⟩
    · exact ⟨.capture, rfl⟩
    · exact ⟨.decode, rfl⟩
    · exact ⟨.convert, rfl⟩
    · exact ⟨.read, rfl⟩

/-- Settles O1: decoding inverts encoding, so a row is the comparison with its encoded word under the row's mask. -/
theorem assignedWordsAreTheTableRows : Obligations.AssignedWordsAreTheTableRows := by
  intro w
  have row := decodeWord_eq_ok_iff_masked w
  refine ⟨row .isLow, row .isHigh, row .setLow, row .setHigh, ?setMode, decodeWord_eq_ok_iff, decodeWord_eq_ok_iff,
    row .capture, row .decode, row .convert, row .read, ?all⟩
  case setMode => simp only [decodeWord_eq_ok_iff, exists_eq_encode_setMode_iff]
  case all => simp only [decodeWord_eq_ok_iff, exists_eq_encode_iff]

/-! ### The reserved words -/

theorem exists_decodeDataPin_eq_ok_iff (f : Op8) :
    (∃ i, decodeDataPin f = .ok i) ↔ f.func.toNat ≤ 4 ∧ (f.d = 0 ∨ f.func = 4) := by
  unfold decodeDataPin
  split
  case h_5 hfunc => simp [← BitVec.toNat_inj, hfunc]
  case h_6 h0 h1 h2 h3 h4 =>
    have hfunc : ¬ f.func.toNat ≤ 4 := fun hle => by interval_cases f.func.toNat <;> contradiction
    simp [hfunc]
  all_goals
    next hfunc => simp [plainOp_eq_ok_iff, ← BitVec.toNat_inj, hfunc]

/-- The decoder accepts the fields that pass the four checks of 30_encoding.md R67, and no others. -/
theorem exists_decodeFields_eq_ok_iff (f : Op8) : (∃ i, decodeFields f = .ok i) ↔ f.wellFormed = true := by
  by_cases hz : f.z = 0
  case neg =>
    have hset : f.z = 1 := by bv_omega
    simp [decodeFields, Op8.wellFormed, Op8.zClear, hset]
  case pos =>
    simp only [decodeFields, hz, Op8.wellFormed, Op8.unitAssigned, Op8.funcAssigned, Op8.operandAllowed, Op8.zClear]
    split
    · contradiction
    split
    case h_1 hunit => simp [exists_decodeDataPin_eq_ok_iff, ← BitVec.toNat_inj, hunit]
    case h_6 h0 h1 h2 h3 h4 =>
      have hunit : ¬ f.unit.toNat ≤ 4 := fun hle => by interval_cases f.unit.toNat <;> contradiction
      simp [hunit]
    all_goals
      next hunit => simp [decodeSole_eq_ok_iff, ← BitVec.toNat_inj, hunit]

theorem exists_decodeWord_eq_error_iff (w : Byte) :
    (∃ r, decodeWord w = .error r) ↔ ¬ (Op8.ofWord w).wellFormed = true := by
  rw [← exists_decodeFields_eq_ok_iff, ← decodeWord]
  cases decodeWord w <;> simp

/-- Counted by running the decoder on every word. -/
theorem reservedWords_count :
    ((List.range 256).filter fun n => !(decodeWord (BitVec.ofNat 8 n)).isOk).length = 246 := by
  decide +kernel

end Sys2Proof

namespace Sys2Proof.Machine

theorem hostWrite_of_decodeWord_ok {s : State} {v : HostWord} {i : Instr} (h : decodeWord (v.extractLsb' 0 8) = .ok i) :
    hostWrite 0 v s = exec i s := by
  simp [hostWrite, h]

theorem hostWrite_of_decodeWord_error {s : State} {v : HostWord} {r : Reserved}
    (h : decodeWord (v.extractLsb' 0 8) = .error r) : hostWrite 0 v s = .next s.refuse := by
  simp [hostWrite, h]

/-- Settles O3: a rejected word fails one of the four checks on its fields, and its write is the refusal. -/
theorem reservedWordsAreRefused : Obligations.ReservedWordsAreRefused := by
  refine ⟨?classes, reservedWords_count, ?refusal⟩
  case classes =>
    intro w
    dsimp only
    rw [exists_decodeWord_eq_error_iff, wellFormed_ofWord_iff]
    split <;> omega
  case refusal =>
    intro s v r hreject
    exact hostWrite_of_decodeWord_error hreject

end Sys2Proof.Machine
end

section
/-! SUPPORT. Admission of a word written to CMD (30_encoding.md R66). -/

namespace Sys2Proof.Machine

/-- Conditions (d) and (e). -/
theorem needs_iff (i : Instr) (s : State) : needs i s = true ↔
    (i = .decode → s.flags.countsValid = true) ∧ (i = .convert → s.flags.readingValid = true) := by
  cases i <;> simp [needs]

/-- Conditions (a) and (b): an idle block is not busy. -/
theorem admits_iff (s : State) : s.Admits ↔ s.flags.initFail = false ∧ s.busy = false ∧ s.pos.st = .idle := by
  constructor
  · intro hport
    obtain ⟨hinit, hidle⟩ := id hport
    exact ⟨hinit, hport.busy, hidle⟩
  · rintro ⟨hinit, -, hidle⟩
    exact ⟨hinit, hidle⟩

/-- No operation's first step sets or clears CMD_REFUSED; acceptance alone does. -/
@[simp] theorem effect_cmdRefused (i : Instr) (s : State) : (effect i s).flags.cmdRefused = s.flags.cmdRefused := by
  cases i <;> rfl

/-- Settles O4: an admitted word has its operation's effect on the accepting state; otherwise either the decoder or the
operation's own admission refuses it. -/
theorem wordAcceptedExactlyUnderAdmission : Obligations.WordAcceptedExactlyUnderAdmission := by
  intro s v
  constructor
  · rintro ⟨hinit, hbusy, hidle, i, hdecode, hneeds⟩
    have hnext := exec_admitted ((admits_iff s).2 ⟨hinit, hbusy, hidle⟩) ((needs_iff i s).2 hneeds)
    exact ⟨i, effect i s.accept, hdecode, hostWrite_of_decodeWord_ok hdecode, hnext, by simp⟩
  · intro hnot
    rcases hostWrite_cases 0 v s with ⟨-, i, hdecode, hexec⟩ | ⟨-, -, hrefuse⟩ | ⟨hne, -⟩
    · rcases exec_cases i s with ⟨hport, hneeds, -⟩ | ⟨-, hrefuse⟩
      · obtain ⟨hinit, hbusy, hidle⟩ := (admits_iff s).1 hport
        exact absurd ⟨hinit, hbusy, hidle, i, hdecode, (needs_iff i s).1 hneeds⟩ hnot
      · exact hexec.trans hrefuse
    · exact hrefuse
    · exact absurd rfl hne

end Sys2Proof.Machine
end

section
/-! SUPPORT. The five DataPin operations (40_datapin.md): the polls as one sample written out, and what the pin cell
drives after a write of the level or of the direction. -/

namespace Sys2Proof.Machine

/-! ### The polls -/

@[simp] theorem State.nextLevel_accept (s : State) : s.accept.nextLevel = s.nextLevel := rfl

theorem State.nextLevel_of_line_eq_cons {s : State} {v : Level} {rest : List Level} (h : s.line = v :: rest) :
    s.nextLevel = v := by
  simp [State.nextLevel, h]

theorem State.poll_eq_sampled (a : Level) (s : State) : s.poll a = s.sampled (decide (s.nextLevel = a)) := by
  simp [State.poll, State.takeSample, State.sampled, List.isEmpty_iff, beq_eq_decide]

/-- Polling after acceptance: a sample neither reads nor writes the flags. -/
theorem State.poll_accept (a : Level) (s : State) : s.accept.poll a =
    { s.sampled (decide (s.nextLevel = a)) with flags := { s.flags with cmdRefused := false } } :=
  State.poll_eq_sampled a s.accept

/-- A poll leaves the port as it was, so the next word is admitted too. -/
theorem State.Admits.poll_accept {s : State} (h : s.Admits) (a : Level) : (s.accept.poll a).Admits := h

/-- A level is low or high and never both. -/
theorem beq_low_eq_not_beq_high (l : Level) : (l == .low) = !(l == .high) := by
  cases l <;> rfl

/-- Settles O7: the word is IS_LOW's own, and its effect on the accepting state is one sample. -/
theorem isLowAnswersItsOwnSample : Obligations.IsLowAnswersItsOwnSample := by
  refine ⟨decodeWord_eq_ok_iff.2 rfl, fun s hs => ?_⟩
  rw [← State.poll_accept]
  exact exec_admitted hs rfl

/-- Settles O8: as IS_LOW, asking for the other level. -/
theorem isHighAnswersItsOwnSample : Obligations.IsHighAnswersItsOwnSample := by
  refine ⟨decodeWord_eq_ok_iff.2 rfl, fun s hs => ?_⟩
  rw [← State.poll_accept]
  exact exec_admitted hs rfl

/-- Settles O9: both polls ask about the next level; the first leaves the port open and takes its level off the line,
so the second asks about the level after it. -/
theorem pollsComplementOnOneSampleIndependentAcross : Obligations.PollsComplementOnOneSampleIndependentAcross := by
  constructor
  · intro s hs
    exact ⟨s.accept.poll .low, s.accept.poll .high, exec_admitted hs rfl, exec_admitted hs rfl,
      beq_low_eq_not_beq_high s.nextLevel⟩
  · intro s v w rest hs hline
    have hfirst : s.nextLevel = v := State.nextLevel_of_line_eq_cons hline
    have hsecond : (s.accept.poll .low).nextLevel = w :=
      State.nextLevel_of_line_eq_cons (rest := rest) (by simp [hline])
    refine ⟨s.accept.poll .low, (s.accept.poll .low).accept.poll .high, exec_admitted hs rfl,
      exec_admitted (hs.poll_accept .low) rfl, ?_⟩
    simp [hline, hfirst, hsecond, beq_eq_decide]

/-! ### The level and the direction -/

theorem State.driven_eq (s : State) : s.driven = if s.pin.dir = .output then some s.pin.out else none := by
  unfold State.driven
  cases s.pin.dir <;> rfl

@[simp] theorem State.driven_pinWrite (l : Level) (s : State) :
    (s.pinWrite l).driven = if s.pin.dir = .output then some l else none :=
  State.driven_eq (s.pinWrite l)

@[simp] theorem State.driven_pinMode (d : Direction) (s : State) :
    (s.pinMode d).driven = if d = .output then some s.pin.out else none :=
  State.driven_eq (s.pinMode d)

/-- Settles O10: the effect on the accepting state is `PinWrite(0)`. -/
theorem setLowStoresAndDrivesTheLevel : Obligations.SetLowStoresAndDrivesTheLevel := by
  refine ⟨decodeWord_eq_ok_iff.2 rfl, fun s hs => ?_⟩
  exact ⟨s.accept.pinWrite .low, exec_admitted hs rfl, rfl, State.driven_pinWrite .low s.accept⟩

/-- Settles O11: the effect on the accepting state is `PinWrite(1)`. -/
theorem setHighStoresAndDrivesTheLevel : Obligations.SetHighStoresAndDrivesTheLevel := by
  refine ⟨decodeWord_eq_ok_iff.2 rfl, fun s hs => ?_⟩
  exact ⟨s.accept.pinWrite .high, exec_admitted hs rfl, rfl, State.driven_pinWrite .high s.accept⟩

/-- Settles O12: the effect on the accepting state is `PinMode(d)`, which leaves `PIN_OUT` for the cell to drive. -/
theorem setModeSwitchesTheDirection : Obligations.SetModeSwitchesTheDirection := by
  refine ⟨decodeWord_eq_ok_iff.2 rfl, decodeWord_eq_ok_iff.2 rfl, fun d s hs => ?_⟩
  exact ⟨s.accept.pinMode d, exec_admitted hs rfl, rfl, State.driven_pinMode d s.accept⟩

end Sys2Proof.Machine
end

section
/-! SUPPORT. One poll of a capture (41_pulse_capture.md R92 to R94): a poll that counts, stated once for both loops, and
what follows the poll that ends a loop. -/

namespace Sys2Proof.Machine

/-! ### The poll that counts -/

theorem countPoll_of_le {m : Nat} {s : State} (h : s.counter (pollIndex s.pos.slot s.pos.phase) + 1 ≤ m) :
    countPoll m s = s.setCounter (pollIndex s.pos.slot s.pos.phase)
      (s.counter (pollIndex s.pos.slot s.pos.phase) + 1) := by
  rcases countPoll_cases m s with ⟨-, hcount⟩ | ⟨hgt, -⟩
  · exact hcount
  · omega

theorem countPoll_of_gt {m : Nat} {s : State} (h : m < s.counter (pollIndex s.pos.slot s.pos.phase) + 1) :
    countPoll m s = (s.setCounter (pollIndex s.pos.slot s.pos.phase)
      (s.counter (pollIndex s.pos.slot s.pos.phase) + 1)).raiseError .readTimeout := by
  rcases countPoll_cases m s with ⟨hle, -⟩ | ⟨-, htimeout⟩
  · omega
  · exact htimeout

theorem sequencerStep_capturing (p : Params) {s : State} (h : s.pos.st = .capturing) :
    sequencerStep p s = captureStep p s := by
  simp only [sequencerStep, h]

section
variable {p : Params} {s : State} {phase : Phase} (hst : s.pos.st = .capturing) (hphase : s.pos.phase = phase)
include hst hphase

/-- A poll that finds the level its loop waits out is counted, in the state after the sample. -/
theorem sequencerStep_waiting (hlevel : s.nextLevel = phase.waitsOut) :
    sequencerStep p s = .next (countPoll p.maxPoll (s.sampled true)) := by
  subst hphase
  rw [sequencerStep_capturing p hst]
  rcases captureStep_cases p s with ⟨-, hstep⟩ | ⟨hne, -⟩
  · rw [hstep, State.poll_eq_sampled, decide_eq_true hlevel]
  · exact absurd hlevel hne

/-- A poll that finds the other level ends its loop. -/
theorem sequencerStep_loopEnds (hlevel : s.nextLevel ≠ phase.waitsOut) :
    sequencerStep p s = endLoop (s.sampled false) := by
  subst hphase
  rw [sequencerStep_capturing p hst]
  rcases captureStep_cases p s with ⟨heq, -⟩ | ⟨-, hstep⟩
  · exact absurd heq hlevel
  · rw [hstep, State.poll_eq_sampled, decide_eq_false hlevel]

theorem sequencerStep_counted (hlevel : s.nextLevel = phase.waitsOut)
    (hle : s.counter (pollIndex s.pos.slot phase) + 1 ≤ p.maxPoll) :
    sequencerStep p s = .next ((s.sampled true).setCounter (pollIndex s.pos.slot phase)
      (s.counter (pollIndex s.pos.slot phase) + 1)) := by
  rw [sequencerStep_waiting hst hphase hlevel]
  subst hphase
  exact congrArg _ (countPoll_of_le hle)

theorem sequencerStep_timedOut (hlevel : s.nextLevel = phase.waitsOut)
    (hgt : p.maxPoll < s.counter (pollIndex s.pos.slot phase) + 1) :
    sequencerStep p s = .next (((s.sampled true).setCounter (pollIndex s.pos.slot phase)
      (s.counter (pollIndex s.pos.slot phase) + 1)).raiseError .readTimeout) := by
  rw [sequencerStep_waiting hst hphase hlevel]
  subst hphase
  exact congrArg _ (countPoll_of_gt hgt)

end

/-! ### The end of a loop -/

theorem endLoop_low {s : State} (h : s.pos.phase = .low) :
    endLoop s = .next { s with pos := { s.pos with phase := .high } } := by
  simp only [endLoop, h]

theorem endLoop_high {s : State} (h : s.pos.phase = .high) : endLoop s = slotAdvance s := by
  simp only [endLoop, h]

/-- Below slot 40 there is a next slot. -/
theorem slotAdvance_next {s : State} {n : Fin 41} (h : n.val = s.pos.slot.val + 1) :
    slotAdvance s = .next { s with pos := { s.pos with slot := n, phase := .low } } := by
  have hlt : s.pos.slot.val < 40 := by omega
  have hn : ⟨s.pos.slot.val + 1, by omega⟩ = n := Fin.ext h.symm
  rw [slotAdvance, dif_pos hlt, hn]

theorem slotAdvance_last {s : State} (h : s.pos.slot = 40) : slotAdvance s = captureComplete s := by
  simp [slotAdvance, h]

theorem captureComplete_capture {s : State} (h : s.pos.curOp = .capture) :
    captureComplete s = .next (State.returnToIdle { s with flags := s.flags.captured }) := by
  simp only [captureComplete, h]

theorem captureComplete_read {s : State} (h : s.pos.curOp = .read) :
    captureComplete s = .next { s with
      flags := s.flags.captured
      pos := { s.pos with st := .decoding, slot := 0, phase := .low } } := by
  simp only [captureComplete, h]

/-- Settles O21: the counted polls are those of either loop, and the low loop's end moves only the phase. -/
theorem lowPhasePollCountsOrHandsOver : Obligations.LowPhasePollCountsOrHandsOver := by
  intro p s hst hphase
  refine ⟨sequencerStep_counted hst hphase, sequencerStep_timedOut hst hphase, fun hhigh => ?_⟩
  have hends : s.nextLevel ≠ Phase.low.waitsOut := by rw [hhigh]; decide
  rw [sequencerStep_loopEnds hst hphase hends, ← hst]
  exact endLoop_low hphase

/-- Settles O22: the counted polls are those of either loop; the high loop's end advances the slot, and at the last slot
completes the capture by `CUR_OP`. -/
theorem highPhasePollCountsOrAdvances : Obligations.HighPhasePollCountsOrAdvances := by
  intro p s hst hphase
  have hends (hlow : s.nextLevel = .low) : sequencerStep p s = slotAdvance (s.sampled false) := by
    have hne : s.nextLevel ≠ Phase.high.waitsOut := by rw [hlow]; decide
    exact (sequencerStep_loopEnds hst hphase hne).trans (endLoop_high hphase)
  have hcompletes (hlow : s.nextLevel = .low) (hlast : s.pos.slot = 40) :
      sequencerStep p s = captureComplete (s.sampled false) :=
    (hends hlow).trans (slotAdvance_last hlast)
  refine ⟨sequencerStep_counted hst hphase, sequencerStep_timedOut hst hphase, ?nextSlot, ?captureEnds, ?readDecodes⟩
  case nextSlot =>
    intro hlow n hn
    rw [hends hlow, ← hst]
    exact slotAdvance_next hn
  case captureEnds =>
    intro hlow hlast hop
    exact (hcompletes hlow hlast).trans (captureComplete_capture hop)
  case readDecodes =>
    intro hlow hlast hop
    exact ⟨_, (hcompletes hlow hlast).trans (captureComplete_read hop), rfl, rfl, hop⟩

end Sys2Proof.Machine
end

section
/-! SUPPORT. The one decode step by its outcomes (42_frame_decoder.md R111 to R123): what it writes in the rules' own
formulas, which counters those formulas read, and the counts that spell a given quintet. -/

namespace Sys2Proof.Machine

/-! ### The outcomes of a decode step -/

/-- What every decode writes, in the formulas of the rules. -/
theorem State.writeDecode_eq_spec (s : State) :
    s.writeDecode = { s with
      sumLow := specSumLow s.counts
      thresh := specSumLow s.counts / 40
      bytes := specBytes s.counts
      flags := s.flags.decoded (checksumOk (specBytes s.counts)) } := by
  rw [State.writeDecode, sumLowOf_eq, threshOf_eq, packBytes_eq]

@[simp] theorem Flags.decoded_readingValid (f : Flags) (ok : Bool) :
    (f.decoded ok).readingValid = (ok || f.readingValid) := by
  cases ok <;> rfl

theorem decodeComplete_decode {s : State} (h : s.pos.curOp = .decode) :
    decodeComplete s = .next s.returnToIdle := by
  simp only [decodeComplete, h]

theorem decodeComplete_read {s : State} (h : s.pos.curOp = .read) :
    decodeComplete s = .next { s with pos := { s.pos with st := .done } } := by
  simp only [decodeComplete, h]

theorem decodeStep_of_checksum_eq {s : State} (h : (specBytes s.counts)[4] = specChecksum (specBytes s.counts)) :
    decodeStep s = decodeComplete s.writeDecode := by
  rw [← packBytes_eq, ← checksumOk_iff] at h
  exact if_pos h

theorem decodeStep_of_checksum_ne {s : State} (h : (specBytes s.counts)[4] ≠ specChecksum (specBytes s.counts)) :
    decodeStep s = .next (s.writeDecode.raiseError
      ⟨.checksum, (specBytes s.counts)[4], specChecksum (specBytes s.counts)⟩) := by
  rw [← packBytes_eq] at h ⊢
  rw [← computedChecksum_eq]
  exact if_neg (mt (checksumOk_iff _).1 h)

/-- Settles O26: the two outcomes of the comparison, and for a match the two operations it completes. -/
theorem decodeStepFollowsItsFiveSteps : Obligations.DecodeStepFollowsItsFiveSteps := by
  intro p s hst b
  rw [sequencerStep_decoding p hst]
  refine ⟨?writes, ?mismatch, ?decode, ?read⟩
  case writes =>
    intro t hstep
    obtain ⟨pos, err, rfl⟩ := decodeStep_next hstep
    exact ⟨sumLowOf_eq _, threshOf_eq _, packBytes_eq _, rfl⟩
  case mismatch =>
    intro hne
    have hok : checksumOk (packBytes s.counts) = false := by
      rw [packBytes_eq]
      exact Bool.eq_false_iff.2 (mt (checksumOk_iff _).1 hne)
    exact ⟨_, decodeStep_of_checksum_ne hne, rfl, by simp [hok], rfl⟩
  case decode =>
    intro heq hop
    rw [decodeStep_of_checksum_eq heq, decodeComplete_decode (s := s.writeDecode) hop,
      State.writeDecode_eq_spec, (checksumOk_iff _).2 heq]
    rfl
  case read =>
    intro heq hop
    rw [decodeStep_of_checksum_eq heq, decodeComplete_read (s := s.writeDecode) hop,
      State.writeDecode_eq_spec, (checksumOk_iff _).2 heq, ← hop]
    rfl

/-! ### The threshold -/

theorem specSumLow_le {x : Vector Nat 82} {m : Nat} (h : ∀ i : Fin 82, x[i] ≤ m) : specSumLow x ≤ 40 * m := by
  have hsum := Finset.sum_le_card_nsmul Finset.univ (lowCount x) m fun k _ => h (lowIndex (bitSlot k))
  simpa [specSumLow] using hsum

/-- Settles O31: `THRESH` is the quotient of the sum by 40, and each of the forty terms is bounded. -/
theorem thresholdIsTheTruncatedMean : Obligations.ThresholdIsTheTruncatedMean := by
  intro p s t hst hstep
  obtain ⟨hwrites, -⟩ := decodeStepFollowsItsFiveSteps p s hst
  obtain ⟨hsum, hthresh, -, -⟩ := hwrites t hstep
  refine ⟨hsum, by omega, by omega, fun hbound => ?_⟩
  have hle := specSumLow_le hbound
  omega

/-! ### The checksum round trip -/

theorem dataBit_eq_of_spells {x : Vector Nat 82} {q : Vector Byte 5} (h : Spells x q) (j : Fin 5) (i : Fin 8) :
    dataBit x (bitOfByte j i) = q[j].getLsbD (7 - i.val) := by
  have hbit : specBit x (bitOfByte j i) = (q[j].getLsbD (7 - i.val)).toNat := h j i
  rw [dataBit_eq, hbit]
  simp

/-- Counts that spell a quintet are packed into it, bit by bit. -/
theorem specBytes_eq_of_spells {x : Vector Nat 82} {q : Vector Byte 5} (h : Spells x q) : specBytes x = q := by
  rw [← packBytes_eq]
  refine Vector.ext fun j hj => BitVec.eq_of_getLsbD_eq fun n hn => ?_
  have hindex : n = 7 - (7 - n) := by omega
  rw [hindex]
  calc (packBytes x)[j].getLsbD (7 - (7 - n))
      = (packByte x ⟨j, hj⟩).getLsbD (7 - (7 - n)) := by rw [← packBytes_getElem]; rfl
    _ = dataBit x (bitOfByte ⟨j, hj⟩ ⟨7 - n, by omega⟩) := packByte_getLsbD x ⟨j, hj⟩ ⟨7 - n, by omega⟩
    _ = q[j].getLsbD (7 - (7 - n)) := dataBit_eq_of_spells h ⟨j, hj⟩ ⟨7 - n, by omega⟩

/-- Settles O28: `READING_VALID` tells a successful decode, and the bytes that are spelled are the bytes packed. -/
theorem spelledQuintetDecodesToItself : Obligations.SpelledQuintetDecodesToItself := by
  refine ⟨?successful, ?spelled⟩
  case successful =>
    intro p s t hst hinvalid hstep hvalid
    rw [sequencerStep_decoding p hst] at hstep
    obtain ⟨pos, err, rfl⟩ := decodeStep_next hstep
    have hok : checksumOk (packBytes s.counts) = true := by simpa [hinvalid] using hvalid
    exact (checksumOk_iff _).1 hok
  case spelled =>
    intro p s q hst hop hq hspells
    have hbytes := specBytes_eq_of_spells hspells
    have hsum : (specBytes s.counts)[4] = specChecksum (specBytes s.counts) := by rw [hbytes]; exact hq
    obtain ⟨-, -, hdecode, hread⟩ := decodeStepFollowsItsFiveSteps p s hst
    rcases hop with hop | hop
    · exact ⟨_, hdecode hsum hop, rfl, hbytes⟩
    · exact ⟨_, hread hsum hop, rfl, hbytes⟩

/-! ### The first pair of counts -/

section
variable (x : Vector Nat 82) (a b : Nat)

theorem getElem_set_first_pair {i : Nat} (hi : 2 ≤ i) (hlt : i < 82) : ((x.set 0 a).set 1 b)[i] = x[i] := by
  rw [Vector.getElem_set_ne _ _ (by omega), Vector.getElem_set_ne _ _ (by omega)]

theorem lowCount_set_first_pair (k : Fin 40) : lowCount ((x.set 0 a).set 1 b) k = lowCount x k :=
  getElem_set_first_pair x a b (by omega) _

theorem highCount_set_first_pair (k : Fin 40) : highCount ((x.set 0 a).set 1 b) k = highCount x k :=
  getElem_set_first_pair x a b (by omega) _

theorem specSumLow_set_first_pair : specSumLow ((x.set 0 a).set 1 b) = specSumLow x := by
  simp only [specSumLow, lowCount_set_first_pair]

theorem specBytes_set_first_pair : specBytes ((x.set 0 a).set 1 b) = specBytes x := by
  simp only [specBytes, specByte, specBit, highCount_set_first_pair, specSumLow_set_first_pair]

end

/-- A decode reads the counters through `SUMLOW` and the five bytes only. -/
theorem writeDecode_with_counts {s : State} {y : Vector Nat 82} (hsum : specSumLow y = specSumLow s.counts)
    (hbytes : specBytes y = specBytes s.counts) :
    State.writeDecode { s with counts := y } = { s.writeDecode with counts := y } := by
  simp only [State.writeDecode_eq_spec, hsum, hbytes]

theorem decodeComplete_with_counts {s t : State} (y : Vector Nat 82) (h : decodeComplete s = .next t) :
    decodeComplete { s with counts := y } = .next { t with counts := y } := by
  cases hop : s.pos.curOp with
  | decode => rw [decodeComplete_decode hop] at h; cases h; exact decodeComplete_decode hop
  | read => rw [decodeComplete_read hop] at h; cases h; exact decodeComplete_read hop
  | none => simp [decodeComplete, hop] at h
  | capture => simp [decodeComplete, hop] at h

theorem decodeStep_with_counts {s t : State} {y : Vector Nat 82} (hsum : specSumLow y = specSumLow s.counts)
    (hbytes : specBytes y = specBytes s.counts) (h : decodeStep s = .next t) :
    decodeStep { s with counts := y } = .next { t with counts := y } := by
  have hwrite := writeDecode_with_counts hsum hbytes
  by_cases hc : (specBytes s.counts)[4] = specChecksum (specBytes s.counts)
  · have hy : (specBytes y)[4] = specChecksum (specBytes y) := by rw [hbytes]; exact hc
    rw [decodeStep_of_checksum_eq hc] at h
    rw [decodeStep_of_checksum_eq (s := { s with counts := y }) hy, hwrite]
    exact decodeComplete_with_counts y h
  · have hy : (specBytes y)[4] ≠ specChecksum (specBytes y) := by rw [hbytes]; exact hc
    rw [decodeStep_of_checksum_ne hc] at h
    cases h
    rw [decodeStep_of_checksum_ne (s := { s with counts := y }) hy, hwrite]
    simp only [hbytes]
    rfl

/-- Settles O30: neither the threshold nor any bit reads `x[0]` or `x[1]`. -/
theorem firstPairIsDiscarded : Obligations.FirstPairIsDiscarded := by
  intro p s t a b hst hstep
  rw [sequencerStep_decoding p hst] at hstep
  rw [sequencerStep_decoding p (s := { s with counts := (s.counts.set 0 a).set 1 b }) hst]
  exact decodeStep_with_counts (specSumLow_set_first_pair s.counts a b) (specBytes_set_first_pair s.counts a b) hstep

end Sys2Proof.Machine
end

section
/-! SUPPORT. The conversion of five bytes (43_reading.md R130 to R134): the two sixteen-bit words a result consists of
are pairs of bytes as they stand, what a result denotes, and the step that publishes it. -/

namespace Sys2Proof.Machine

/-! ### The result registers, as numbers and as pairs of bytes -/

theorem convert_humRaw_toNat (q : Vector Byte 5) : (convert q).humRaw.toNat = q[0].toNat * 256 + q[1].toNat := by
  have hhigh := q[0].isLt
  have hlow := q[1].isLt
  exact (BitVec.toNat_ofNat _ 16).trans (Nat.mod_eq_of_lt (by omega))

theorem convert_tempMag_toNat (q : Vector Byte 5) :
    (convert q).tempMag.toNat = (q[2].toNat &&& 0x7F) * 256 + q[3].toNat :=
  (BitVec.toNat_ofNat _ 15).trans (Nat.mod_eq_of_lt (magnitude_lt q[2] q[3]))

@[simp] theorem convert_tempNeg (q : Vector Byte 5) : (convert q).tempNeg = q[2].getLsbD 7 := rfl

/-- Two bytes, one after the other, are the number with these two digits in base 256. -/
theorem byte_append_toNat (high low : Byte) : (high ++ low).toNat = high.toNat * 256 + low.toNat := by
  rw [BitVec.toNat_append, ← Nat.shiftLeft_add_eq_or_of_lt low.isLt, Nat.shiftLeft_eq]

theorem convert_humRaw_eq_append (q : Vector Byte 5) : (convert q).humRaw = q[0] ++ q[1] :=
  BitVec.eq_of_toNat_eq ((convert_humRaw_toNat q).trans (byte_append_toNat q[0] q[1]).symm)

/-- A byte is bit 7 and the seven bits below it. -/
theorem byte_toNat_eq_sign_add_and (b : Byte) : b.toNat = (b.getLsbD 7).toNat * 128 + (b.toNat &&& 0x7F) := by
  revert b
  decide

/-- Sign and magnitude as one word, the sixteen bits of the TEMP register (10_state.md R21). -/
def Results.tempWord (r : Results) : BitVec 16 := boolBit r.tempNeg ++ r.tempMag

theorem State.tempField_eq_tempWord (s : State) : s.tempField = s.result.tempWord := rfl

theorem Results.tempWord_toNat (r : Results) : r.tempWord.toNat = r.tempNeg.toNat * 2 ^ 15 + r.tempMag.toNat := by
  rw [Results.tempWord, BitVec.toNat_append, ← Nat.shiftLeft_add_eq_or_of_lt r.tempMag.isLt, Nat.shiftLeft_eq,
    boolBit, BitVec.toNat_ofBool]

theorem convert_tempWord_eq_append (q : Vector Byte 5) : (convert q).tempWord = q[2] ++ q[3] := by
  apply BitVec.eq_of_toNat_eq
  have hbyte := byte_toNat_eq_sign_add_and q[2]
  rw [Results.tempWord_toNat, byte_append_toNat, convert_tempNeg, convert_tempMag_toNat]
  omega

/-! ### Bytes that convert to a given result -/

/-- The bytes of the two words of a result, high byte first; byte 4 is free. -/
def Results.toBytes (r : Results) : Vector Byte 5 :=
  #v[r.humRaw.extractLsb' 8 8, r.humRaw.extractLsb' 0 8, r.tempWord.extractLsb' 8 8, r.tempWord.extractLsb' 0 8, 0]

theorem eq_and_eq_of_append_eq {m n : Nat} {x x' : BitVec m} {y y' : BitVec n} (h : x ++ y = x' ++ y') :
    x = x' ∧ y = y' := by
  constructor
  · rw [← BitVec.extractLsb'_append_eq_left (a := x) (b := y), h, BitVec.extractLsb'_append_eq_left]
  · rw [← BitVec.extractLsb'_append_eq_right (a := x) (b := y), h, BitVec.extractLsb'_append_eq_right]

/-- A result is determined by its humidity word and its temperature word. -/
theorem Results.eq_of_words {r r' : Results} (hhum : r.humRaw = r'.humRaw) (htemp : r.tempWord = r'.tempWord) :
    r = r' := by
  obtain ⟨hsign, hmag⟩ := eq_and_eq_of_append_eq htemp
  have hneg : r.tempNeg = r'.tempNeg := by simpa [boolBit] using congrArg BitVec.msb hsign
  cases r
  cases r'
  simp only [Results.mk.injEq]
  exact ⟨hhum, hmag, hneg⟩

theorem convert_toBytes (r : Results) : convert r.toBytes = r :=
  Results.eq_of_words ((convert_humRaw_eq_append _).trans BitVec.extractLsb'_append_extractLsb')
    ((convert_tempWord_eq_append _).trans BitVec.extractLsb'_append_extractLsb')

/-! ### What a result denotes -/

theorem Results.humidity_eq (r : Results) : r.humidity = (r.humRaw.toNat : ℚ) / 10 := by
  simp [Results.humidity, Results.humidityTenths]

theorem Results.temperature_of_pos {r : Results} (h : r.tempNeg = false) :
    r.temperature = (r.tempMag.toNat : ℚ) / 10 := by
  simp [Results.temperature, Results.temperatureTenths, h]

theorem Results.temperature_of_neg {r : Results} (h : r.tempNeg = true) :
    r.temperature = -((r.tempMag.toNat : ℚ) / 10) := by
  simp [Results.temperature, Results.temperatureTenths, h, neg_div]

theorem Results.abs_temperature (r : Results) : |r.temperature| = (r.tempMag.toNat : ℚ) / 10 := by
  have hmag : (0 : ℚ) ≤ (r.tempMag.toNat : ℚ) / 10 := by positivity
  cases hsign : r.tempNeg with
  | false => rw [Results.temperature_of_pos hsign, abs_of_nonneg hmag]
  | true => rw [Results.temperature_of_neg hsign, abs_neg, abs_of_nonneg hmag]

/-- A word of `n` bits, in tenths, is at most the tenth of its greatest value. -/
theorem toNat_div_ten_le {n : Nat} (w : BitVec n) : (w.toNat : ℚ) / 10 ≤ ((2 ^ n - 1 : Nat) : ℚ) / 10 := by
  have hle : w.toNat ≤ 2 ^ n - 1 := Nat.le_sub_one_of_lt w.isLt
  gcongr

/-- Settles O34: every result is the conversion of its own bytes, and the ranges are those of the two registers. -/
theorem convertReachesEveryResultUnclamped : Obligations.ConvertReachesEveryResultUnclamped := by
  refine ⟨fun r => ⟨r.toBytes, convert_toBytes r⟩, fun q => ?_⟩
  have hhum := toNat_div_ten_le (convert q).humRaw
  have htemp := toNat_div_ten_le (convert q).tempMag
  rw [← Results.humidity_eq] at hhum
  rw [← Results.abs_temperature] at htemp
  obtain ⟨hlow, hhigh⟩ := abs_le.1 htemp
  have hnonneg : 0 ≤ (convert q).humidity := by rw [Results.humidity_eq]; positivity
  exact ⟨hnonneg, by simpa using hhum, by simpa using hlow, by simpa using hhigh⟩

/-- Settles O33: the registers hold their formulas unwrapped, and what they denote follows the sign. -/
theorem convertComputesTenths : Obligations.ConvertComputesTenths := by
  intro q
  refine ⟨convert_humRaw_toNat q, ?humidity, convert_tempNeg q, convert_tempMag_toNat q, Results.temperature_of_pos,
    Results.temperature_of_neg⟩
  case humidity => rw [Results.humidity_eq, convert_humRaw_toNat]

/-! ### The step that publishes a result -/

theorem sequencerStep_done (p : Params) {s : State} (h : s.pos.st = .done) :
    sequencerStep p s = .next s.doneStep := by
  simp only [sequencerStep, h]

/-- A conversion consumes the Reading, so the next CONVERT has no input. -/
theorem needs_convert_cascadeThenConvert (s : State) : needs .convert s.cascadeThenConvert = false := rfl

/-- Settles O15: an accepted CONVERT and the step in Done both write the conversion of the bytes, whose registers hold
their formulas; the second CONVERT lacks `READING_VALID`, which the first cleared. -/
theorem convertPublishesTheReadingOnce : Obligations.ConvertPublishesTheReadingOnce := by
  refine ⟨decodeWord_eq_ok_iff.2 rfl, fun s hs => ⟨?accepted, ?refused, ?done⟩⟩
  case accepted =>
    intro hreading
    exact ⟨s.accept.cascadeThenConvert, exec_admitted hs hreading, rfl, convert_humRaw_toNat s.bytes,
      convert_tempNeg s.bytes, convert_tempMag_toNat s.bytes,
      exec_refused (.inr (needs_convert_cascadeThenConvert s.accept))⟩
  case refused =>
    intro hreading
    exact exec_refused (.inr hreading)
  case done =>
    intro p u hst
    exact ⟨u.doneStep, sequencerStep_done p hst, rfl, rfl, convert_humRaw_toNat u.bytes, convert_tempNeg u.bytes,
      convert_tempMag_toNat u.bytes⟩

end Sys2Proof.Machine
end

section
/-! SUPPORT. READ's wake sequence as a walk down the micro-step table (44_sensor_session.md R141 to R144), and READ's
last step (R148). -/

namespace Sys2Proof.Machine

/-! ### One micro-step -/

/-- `ST` is the one of `UPC`'s row in the micro-step table. -/
def State.OnRow (s : State) : Prop := s.pos.st = (microStep s.pos.upc).st

/-- The state after the micro-step that `UPC` names; `wakeStep_onRow` says that it is the step's own answer. -/
def State.microStepped (s : State) : State :=
  ((microStep s.pos.upc).op.run s).moveTo (microStep s.pos.upc).st' (microStep s.pos.upc).upc'

theorem microStep_st_waking (u : Fin 8) : (microStep u).st.waking = true := by
  revert u
  decide

/-- Each row but the last hands over to the row below it. -/
theorem microStep_st'_upc' {u v : Fin 8} (h : v.val = u.val + 1) :
    (microStep u).st' = (microStep v).st ∧ (microStep u).upc' = v := by
  revert u v
  decide

theorem wakeStep_onRow {s : State} (h : s.OnRow) : wakeStep s = .next s.microStepped := wakeStep_row h

theorem sequencerStep_waking (p : Params) {s : State} (h : s.pos.st.waking = true) :
    sequencerStep p s = wakeStep s := by
  unfold sequencerStep
  cases hst : s.pos.st with
  | wakeHigh | startLow | ackWait => rfl
  | idle | capturing | decoding | done | initFailed => rw [hst] at h; cases h

theorem sequencerStep_onRow (p : Params) {s : State} (h : s.OnRow) : sequencerStep p s = .next s.microStepped := by
  have hwaking : s.pos.st.waking = true := h ▸ microStep_st_waking s.pos.upc
  rw [sequencerStep_waking p hwaking, wakeStep_onRow h]

/-- The step at row `u` of the table. -/
theorem sequencerStep_microStep (p : Params) {s : State} (u : Fin 8) (hst : s.pos.st = (microStep u).st)
    (hupc : s.pos.upc = u) :
    sequencerStep p s = .next (((microStep u).op.run s).moveTo (microStep u).st' (microStep u).upc') := by
  subst hupc
  exact sequencerStep_onRow p hst

/-- Settles O18: the table's row gives the operation and where it leads, and each clause is one row written out. -/
theorem microStepsFollowTheTable : Obligations.MicroStepsFollowTheTable := by
  intro p s
  have row := sequencerStep_microStep p (s := s)
  exact ⟨row 0, row 1, row 2, row 3, row 4, row 5, row 6, row 7⟩

/-! ### The eight micro-steps of an undisturbed READ -/

@[simp] theorem State.microStepped_inputs (s : State) : s.microStepped.inputs = s.inputs := by
  unfold State.microStepped
  cases (microStep s.pos.upc).op <;> rfl

theorem stepWith_onRow (p : Params) {s : State} (h : s.OnRow) (hquiet : s.inputs = []) :
    stepWith p s = .next s.microStepped := by
  rw [stepWith_quiet p hquiet, sequencerStep_onRow p h]

/-- After a micro-step that is not the last, `UPC` is one higher and the next one is at its row. -/
theorem State.microStepped_onRow {s : State} {v : Fin 8} (h : v.val = s.pos.upc.val + 1) :
    s.microStepped.pos.upc = v ∧ s.microStepped.OnRow := by
  obtain ⟨hst, hupc⟩ := microStep_st'_upc' h
  refine ⟨hupc, ?_⟩
  calc s.microStepped.pos.st
      = (microStep v).st := hst
    _ = (microStep s.microStepped.pos.upc).st := by rw [← hupc]; rfl

/-- From row `UPC` on, at most as many micro-steps follow one another as there are rows left. -/
theorem runWith_microSteps (p : Params) {s : State} (hrow : s.OnRow) (hquiet : s.inputs = []) {k : Nat}
    (hk : s.pos.upc.val + k ≤ 8) : runWith p k s = .next (State.microStepped^[k] s) := by
  induction k generalizing s with
  | zero => rfl
  | succ k ih =>
    rw [runWith_succ (stepWith_onRow p hrow hquiet), Function.iterate_succ_apply]
    cases k with
    | zero => rfl
    | succ k =>
      obtain ⟨hupc, hnext⟩ := State.microStepped_onRow (s := s) (v := ⟨s.pos.upc.val + 1, by omega⟩) rfl
      exact ih hnext (by simp [hquiet]) (by rw [hupc]; simp only; omega)

@[simp] theorem State.beginRead_pos (s : State) :
    s.beginRead.pos = { s.pos with st := .wakeHigh, upc := 0, curOp := .read } := rfl

theorem State.beginRead_onRow (s : State) : s.beginRead.OnRow := rfl

/-- An admitted READ with no host event pending begins the wake sequence and walks down the table. -/
theorem issueThenRun_read {p : Params} {s : State} (hs : s.Admits) (hquiet : s.inputs = []) {k : Nat} (hk : k ≤ 8) :
    issueThenRun p .read k s = .next (State.microStepped^[k] s.accept.beginRead) := by
  rw [issueThenRun_of_exec (exec_admitted hs rfl)]
  exact runWith_microSteps p (State.beginRead_onRow s.accept) hquiet (by simpa using hk)

/-- The whole state at the first poll. -/
theorem microStepped_eight_beginRead (s : State) :
    State.microStepped^[8] s.beginRead = { s with
      pin := ⟨.input, .high, s.pin.res⟩
      flags := s.flags.cascadeCapture
      err := ErrorReg.clear
      counts := Vector.replicate 82 0
      history := s.history ++ wakeEvents
      pos := ⟨.capturing, 0, 0, .low, .read⟩ } := by
  have hevents : s.history ++ wakeEvents = s.history ++ [.mode .output] ++ [.drive .high] ++ [.hold .wakeHigh] ++
      [.drive .low] ++ [.hold .startLow] ++ [.drive .high] ++ [.hold .ack] ++ [.mode .input] := by
    simp [wakeEvents]
  rw [hevents]
  rfl

/-- What the cell drives at each of the nine moments from the acceptance to the first poll. -/
theorem driven_microStepped_beginRead (s : State) {j : Nat} (hj : j ≤ 8) :
    (State.microStepped^[j] s.beginRead).busy = true ∧
    [s.driven, some s.pin.out, some .high, some .high, some .low, some .low, some .high, some .high, none][j]? =
      some (State.microStepped^[j] s.beginRead).driven := by
  interval_cases j <;> exact ⟨rfl, rfl⟩

/-! ### The holds' parameters -/

theorem params_tWakeHigh_ge : 10000 ≤ Config.params.tWakeHigh := le_add_of_nonneg_right (abs_nonneg _)

theorem params_tStartLow_ge : 1000 ≤ Config.params.tStartLow := le_add_of_nonneg_right (abs_nonneg _)

theorem params_tAck_ge : 20 ≤ Config.params.tAck := le_add_of_nonneg_right (le_min (abs_nonneg _) (by norm_num))

theorem params_tAck_le : Config.params.tAck ≤ 40 := by
  have hcut : min |Config.ackSlack| 20 ≤ 20 := min_le_right _ _
  simp only [Config.params]
  linarith

/-- Settles O19: the bounds are built into the parameters, and the run is the walk down the table, read off at each of
its moments and written out at its end. -/
theorem readDrivesTheWakeSequence : Obligations.ReadDrivesTheWakeSequence := by
  refine ⟨⟨params_tWakeHigh_ge, params_tStartLow_ge, params_tAck_ge, params_tAck_le⟩,
    fun p s hs hquiet => ⟨?atEnd, ?onTheWay⟩⟩
  case atEnd =>
    obtain ⟨hinit, -⟩ := id hs
    have hflags : s.accept.flags.cascadeCapture = ⟨false, false, false, false, false⟩ := by simp [hinit]
    rw [issueThenRun_read hs hquiet le_rfl, microStepped_eight_beginRead, hflags]
    rfl
  case onTheWay =>
    intro j hj
    exact ⟨_, issueThenRun_read hs hquiet hj, driven_microStepped_beginRead s.accept hj⟩

/-! ### The step in Done -/

/-- Settles O35: the step writes the conversion of the bytes, whose two words are the pairs of bytes as they stand. -/
theorem doneStepPublishesAndReturns : Obligations.DoneStepPublishesAndReturns := by
  intro p s hst
  exact ⟨s.doneStep, sequencerStep_done p hst, rfl, convert_tempWord_eq_append s.bytes,
    convert_humRaw_eq_append s.bytes⟩

end Sys2Proof.Machine
end

section
/-! SUPPORT. The Checksum error: what the decode step leaves when byte 4 does not match (60_exceptions.md R164). -/

namespace Sys2Proof.Machine

/-- A failed decode without an older Reading leaves neither counts nor a Reading to be read. -/
theorem Flags.decoded_false {f : Flags} (h : f.readingValid = false) :
    f.decoded false = ⟨f.initFail, false, false, f.resultValid, f.cmdRefused⟩ := by
  simp [Flags.decoded, h]

/-- Settles O27: the step writes what every decode writes and takes the Checksum error with the two bytes compared; the
failed comparison leaves READING_VALID at the 0 it had. -/
theorem checksumErrorCarriesBothBytes : Obligations.ChecksumErrorCarriesBothBytes := by
  intro p s hst hunread b hne
  have hok : checksumOk b = false := Bool.eq_false_iff.2 (mt (checksumOk_iff b).1 hne)
  rw [sequencerStep_decoding p hst, decodeStep_of_checksum_ne hne, State.writeDecode_eq_spec, hok,
    Flags.decoded_false hunread]
  rfl

end Sys2Proof.Machine
end

section
/-! SUPPORT. Reset as an input: the state it leaves (70_reset_and_hazards.md R191, 10_state.md R26). -/

namespace Sys2Proof.Machine

@[simp] theorem applyInput_reset (ok : Bool) (s : State) : applyInput (.reset ok) s = .next (s.resetBlock ok) := rfl

/-- Reset ends in a state without activity, with or without a pin. -/
@[simp] theorem State.resetBlock_busy (ok : Bool) (s : State) : (s.resetBlock ok).busy = false := by
  cases ok with
  | true => rfl
  | false => rfl

/-- Settles O41: the input resets the block, each of whose registers is the one of the state after reset, whatever the
state was before. -/
theorem resetAtAnyStepLeavesTheResetValues : Obligations.ResetAtAnyStepLeavesTheResetValues := by
  intro s ok
  exact ⟨s.resetBlock ok, applyInput_reset ok s, s.resetBlock_pos ok, s.resetBlock_pin ok, s.resetBlock_flags ok,
    s.resetBlock_err ok, s.resetBlock_busy ok⟩

end Sys2Proof.Machine
end

section
/-! SUPPORT. The invariant of every reachable state (10_state.md section 4): read off state by state of the session,
it is kept by every input and by every step of the sequencer, which never stops under it. -/

namespace Sys2Proof.Machine

/-! ### The invariant, by session state -/

/-- The clauses of the invariant about the data, the valid flags and ERR, which hold in every session state. -/
structure DataInv (p : Params) (s : State) : Prop where
  one_valid : (s.flags.countsValid = true → s.flags.readingValid = false ∧ s.flags.resultValid = false) ∧
    (s.flags.readingValid = true → s.flags.resultValid = false)
  err_flags : s.err.kind ≠ .none → s.flags.NoneValid
  err_zero : s.err.kind ≠ .checksum → s.err.expected = 0 ∧ s.err.computed = 0
  err_differ : s.err.kind = .checksum → s.err.expected ≠ s.err.computed
  counts_le : s.err.kind = .readTimeout → ∀ i : Fin 82, s.counts[i] ≤ p.maxPoll + 1
  counts_ok : s.flags.countsValid = true ∨ s.Decoded → ∀ i : Fin 82, s.counts[i] ≤ p.maxPoll
  sum_le : s.Decoded → s.sumLow ≤ 40 * p.maxPoll
  thresh_le : s.Decoded → s.thresh ≤ p.maxPoll
  reading_ok : s.flags.readingValid = true → s.bytes[4] = specChecksum s.bytes

/-- Idle: the position is at rest and the pin was bound. -/
structure IdleInv (p : Params) (s : State) : Prop where
  pos_rest : s.pos = .restAt .idle
  bound : s.flags.initFail = false
  kind : s.err.kind ≠ .initialization
  data : DataInv p s

/-- The wake sequence of a READ, before the micro-step of `UPC`. -/
structure WakingInv (s : State) : Prop where
  row : s.OnRow
  op : s.pos.curOp = .read
  slot : s.pos.slot = 0
  phase : s.pos.phase = .low
  bound : s.flags.initFail = false
  err : s.err = .clear
  flags : s.flags.NoneValid
  driving : s.pos.upc ≠ 0 → s.pin.dir = .output
  high : s.pos.upc = 6 ∨ s.pos.upc = 7 → s.pin.out = .high

/-- What Capturing, Decoding and Done have in common: no error, and a READ has released the line. -/
structure ActiveInv (p : Params) (s : State) : Prop where
  upc : s.pos.upc = 0
  bound : s.flags.initFail = false
  err : s.err = .clear
  data : DataInv p s
  released : s.pos.curOp = .read → s.pin.dir = .input ∧ s.pin.out = .high

structure CapturingInv (p : Params) (s : State) : Prop extends ActiveInv p s where
  st : s.pos.st = .capturing
  op : s.pos.curOp = .capture ∨ s.pos.curOp = .read
  flags : s.flags.NoneValid
  counts : ∀ i : Fin 82, s.counts[i] ≤ p.maxPoll

structure DecodingInv (p : Params) (s : State) : Prop extends ActiveInv p s where
  st : s.pos.st = .decoding
  op : s.pos.curOp = .decode ∨ s.pos.curOp = .read
  slot : s.pos.slot = 0
  phase : s.pos.phase = .low
  ready : s.flags.countsValid = true

structure DoneInv (p : Params) (s : State) : Prop extends ActiveInv p s where
  st : s.pos.st = .done
  op : s.pos.curOp = .read
  slot : s.pos.slot = 0
  phase : s.pos.phase = .low
  ready : s.flags.readingValid = true

section
variable {p : Params} {s : State}

theorem Inv.data (h : Inv p s) : DataInv p s where
  one_valid := h.one_valid
  err_flags := h.err_flags
  err_zero := h.err_zero
  err_differ := h.err_differ
  counts_le := h.counts_le
  counts_ok hready := h.counts_ok (.inr hready)
  sum_le := h.sum_le
  thresh_le := h.thresh_le
  reading_ok := h.reading_ok

/-- A block with nothing valid and no error promises nothing about its data. -/
theorem DataInv.of_noneValid (hflags : s.flags.NoneValid) (herr : s.err = .clear) : DataInv p s := by
  obtain ⟨hcounts, hreading, hresult⟩ := hflags
  constructor <;> simp [hcounts, hreading, hresult, herr, ErrorReg.clear, State.Decoded]

/-- While busy no error is recorded, so ERR is as the acceptance cleared it. -/
theorem Inv.err_eq_clear (h : Inv p s) (hbusy : s.busy = true) : s.err = .clear := by
  have hkind := h.busy_err hbusy
  obtain ⟨hexpected, hcomputed⟩ := h.err_zero (by simp [hkind])
  rcases herr : s.err with ⟨kind, expected, computed⟩
  simp_all [ErrorReg.clear]

theorem Inv.initFail_eq_false (h : Inv p s) (hst : s.pos.st ≠ .initFailed) : s.flags.initFail = false :=
  Bool.eq_false_iff.2 (mt h.init_flag.1 hst)

/-! Taking the invariant apart. -/

theorem Inv.idle (h : Inv p s) (hst : s.pos.st = .idle) : IdleInv p s where
  pos_rest := by
    have hop := h.op_fits
    have hupc := h.upc_zero
    have hslot := h.slot_zero
    rcases hpos : s.pos with ⟨st, upc, slot, phase, op⟩
    simp_all [Position.opFits, SessionState.waking, Position.restAt]
  bound := h.initFail_eq_false (by simp [hst])
  kind := mt h.init_kind.1 (by simp [hst])
  data := h.data

theorem SessionState.waking_iff (st : SessionState) :
    st.waking = true ↔ st = .wakeHigh ∨ st = .startLow ∨ st = .ackWait := by
  cases st <;> simp [SessionState.waking]

theorem Inv.waking (h : Inv p s) (hst : s.pos.st.waking = true) : WakingInv s := by
  have hst' := (SessionState.waking_iff _).1 hst
  have hnot : s.pos.st ≠ .capturing ∧ s.pos.st ≠ .initFailed := by rcases hst' with e | e | e <;> simp [e]
  obtain ⟨hslot, hphase⟩ := h.slot_zero hnot.1
  exact {
    row := (h.upc_row hst).symm
    op := by
      have hop := h.op_fits
      rcases hst' with e | e | e <;> simpa [Position.opFits, e] using hop
    slot := hslot
    phase := hphase
    bound := h.initFail_eq_false hnot.2
    err := h.err_eq_clear (by rcases hst' with e | e | e <;> simp [State.busy, SessionState.busy, e])
    flags := h.early_flags (.inl hst)
    driving := h.wake_pin hst
    high := h.ack_pin hst }

theorem Inv.active (h : Inv p s) (hst : s.pos.st = .capturing ∨ s.pos.st = .decoding ∨ s.pos.st = .done) :
    ActiveInv p s := by
  have hwaking : s.pos.st.waking = false := by rcases hst with e | e | e <;> simp [SessionState.waking, e]
  exact {
    upc := h.upc_zero hwaking
    bound := h.initFail_eq_false (by rcases hst with e | e | e <;> simp [e])
    err := h.err_eq_clear (by rcases hst with e | e | e <;> simp [State.busy, SessionState.busy, e])
    data := h.data
    released := fun hop => h.read_pin hop hwaking }

theorem Inv.capturing (h : Inv p s) (hst : s.pos.st = .capturing) : CapturingInv p s where
  toActiveInv := h.active (.inl hst)
  st := hst
  op := by simpa [Position.opFits, hst] using h.op_fits
  flags := h.early_flags (.inr hst)
  counts := h.counts_ok (.inl hst)

theorem Inv.decoding (h : Inv p s) (hst : s.pos.st = .decoding) : DecodingInv p s where
  toActiveInv := h.active (.inr (.inl hst))
  st := hst
  op := by simpa [Position.opFits, hst] using h.op_fits
  slot := (h.slot_zero (by simp [hst])).1
  phase := (h.slot_zero (by simp [hst])).2
  ready := h.decoding_flags hst

theorem Inv.done (h : Inv p s) (hst : s.pos.st = .done) : DoneInv p s where
  toActiveInv := h.active (.inr (.inr hst))
  st := hst
  op := by simpa [Position.opFits, hst] using h.op_fits
  slot := (h.slot_zero (by simp [hst])).1
  phase := (h.slot_zero (by simp [hst])).2
  ready := h.done_flags hst

/-! Putting it together again. -/

/-- The clauses about the data are those of `DataInv`; what remains to show are the clauses about the position, the
pin and the flags that go with it. -/
theorem IdleInv.inv (h : IdleInv p s) : Inv p s := by
  obtain ⟨hpos, hbound, hkind, hdata⟩ := h
  exact { hdata with
    counts_ok := fun hready => hdata.counts_ok (by simpa [hpos, Position.restAt] using hready)
    op_fits := by simp [hpos, Position.restAt, Position.opFits]
    upc_row := by simp [hpos, Position.restAt, SessionState.waking]
    upc_zero := by simp [hpos, Position.restAt]
    slot_zero := by simp [hpos, Position.restAt]
    init_flag := by simp [hpos, Position.restAt, hbound]
    init_kind := by simp [hpos, Position.restAt, hkind]
    init_pin := by simp [hpos, Position.restAt]
    busy_err := by simp [hpos, Position.restAt, State.busy, SessionState.busy]
    early_flags := by simp [hpos, Position.restAt, SessionState.waking]
    decoding_flags := by simp [hpos, Position.restAt]
    done_flags := by simp [hpos, Position.restAt]
    wake_pin := by simp [hpos, Position.restAt, SessionState.waking]
    ack_pin := by simp [hpos, Position.restAt, SessionState.waking]
    read_pin := by simp [hpos, Position.restAt] }

theorem WakingInv.inv (h : WakingInv s) : Inv p s := by
  have hwaking : s.pos.st.waking = true := h.row ▸ microStep_st_waking s.pos.upc
  have hst := (SessionState.waking_iff _).1 hwaking
  obtain ⟨hrow, hop, hslot, hphase, hbound, herr, hflags, hdriving, hhigh⟩ := h
  have hdata : DataInv p s := .of_noneValid hflags herr
  rcases hst with hst | hst | hst
  all_goals
    exact { hdata with
      counts_ok := fun hready => hdata.counts_ok (by simpa [hst] using hready)
      op_fits := by simp [Position.opFits, hst, hop]
      upc_row := fun _ => hrow.symm
      upc_zero := by simp [hwaking]
      slot_zero := fun _ => ⟨hslot, hphase⟩
      init_flag := by simp [hst, hbound]
      init_kind := by simp [hst, herr, ErrorReg.clear]
      init_pin := by simp [hst]
      busy_err := by simp [herr, ErrorReg.clear]
      early_flags := fun _ => hflags
      decoding_flags := by simp [hst]
      done_flags := by simp [hst]
      wake_pin := fun _ => hdriving
      ack_pin := fun _ => hhigh
      read_pin := by simp [hwaking] }

/-- The part that Capturing, Decoding and Done share. -/
theorem ActiveInv.inv (h : ActiveInv p s)
    (hst : s.pos.st = .capturing ∨ s.pos.st = .decoding ∨ s.pos.st = .done)
    (hop : s.pos.opFits = true) (hslot : s.pos.st ≠ .capturing → s.pos.slot = 0 ∧ s.pos.phase = .low)
    (hcapturing : s.pos.st = .capturing → s.flags.NoneValid ∧ ∀ i : Fin 82, s.counts[i] ≤ p.maxPoll)
    (hdecoding : s.pos.st = .decoding → s.flags.countsValid = true)
    (hdone : s.pos.st = .done → s.flags.readingValid = true) : Inv p s := by
  obtain ⟨hupc, hbound, herr, hdata, hreleased⟩ := h
  have hwaking : s.pos.st.waking = false := by rcases hst with e | e | e <;> simp [SessionState.waking, e]
  have hinit : s.pos.st ≠ .initFailed := by rcases hst with e | e | e <;> simp [e]
  exact { hdata with
    counts_ok := fun hready => hready.elim (fun e => (hcapturing e).2) hdata.counts_ok
    op_fits := hop
    upc_row := by simp [hwaking]
    upc_zero := fun _ => hupc
    slot_zero := hslot
    init_flag := by simp [hinit, hbound]
    init_kind := by simp [hinit, herr, ErrorReg.clear]
    init_pin := fun e => absurd e hinit
    busy_err := by simp [herr, ErrorReg.clear]
    early_flags := fun hearly => by
      rcases hearly with e | e
      · simp [hwaking] at e
      · exact (hcapturing e).1
    decoding_flags := hdecoding
    done_flags := hdone
    wake_pin := by simp [hwaking]
    ack_pin := by simp [hwaking]
    read_pin := fun e _ => hreleased e }

theorem CapturingInv.inv (h : CapturingInv p s) : Inv p s :=
  h.toActiveInv.inv (.inl h.st) (by simpa [Position.opFits, h.st] using h.op) (by simp [h.st])
    (fun _ => ⟨h.flags, h.counts⟩) (by simp [h.st]) (by simp [h.st])

theorem DecodingInv.inv (h : DecodingInv p s) : Inv p s :=
  h.toActiveInv.inv (.inr (.inl h.st)) (by simpa [Position.opFits, h.st] using h.op) (fun _ => ⟨h.slot, h.phase⟩)
    (by simp [h.st]) (fun _ => h.ready) (by simp [h.st])

theorem DoneInv.inv (h : DoneInv p s) : Inv p s :=
  h.toActiveInv.inv (.inr (.inr h.st)) (by simpa [Position.opFits, h.st] using h.op) (fun _ => ⟨h.slot, h.phase⟩)
    (by simp [h.st]) (by simp [h.st]) (fun _ => h.ready)

end

section
variable {p : Params} {s : State}

/-! ### What the invariant does not read -/

theorem Inv.refuse (h : Inv p s) : Inv p s.refuse := { h with }

theorem Inv.hostRead (h : Inv p s) (r : Nat) : Inv p (s.hostRead r) := { h with }

theorem Inv.with_inputs (h : Inv p s) (l : List HostEvent) : Inv p { s with inputs := l } := { h with }

theorem IdleInv.accept (h : IdleInv p s) : IdleInv p s.accept := { h with data := { h.data with } }

/-! ### The data after a cascade, a conversion and a decode -/

/-- After an acceptance that clears ERR and at least `RESULT_VALID`, what is still valid was valid before. -/
theorem DataInv.cleared (h : DataInv p s) {f : Flags} (hcounts : f.countsValid = true → s.flags.countsValid = true)
    (hreading : f.readingValid = true → s.flags.readingValid = true) (hresult : f.resultValid = false) :
    DataInv p { s.clearError with flags := f } := by
  have hdecoded : State.Decoded { s.clearError with flags := f } → s.Decoded := by
    rintro (hr | hr | hr)
    · exact .inl (hreading hr)
    · simp [hresult] at hr
    · simp [ErrorReg.clear] at hr
  exact {
    one_valid := ⟨fun hc => ⟨Bool.eq_false_iff.2 fun hr => by simpa [hreading hr] using h.one_valid.1 (hcounts hc),
      hresult⟩, fun _ => hresult⟩
    err_flags := by simp [ErrorReg.clear]
    err_zero := fun _ => ⟨rfl, rfl⟩
    err_differ := by simp [ErrorReg.clear]
    counts_le := by simp [ErrorReg.clear]
    counts_ok := fun hready => h.counts_ok (hready.imp hcounts hdecoded)
    sum_le := fun hd => h.sum_le (hdecoded hd)
    thresh_le := fun hd => h.thresh_le (hdecoded hd)
    reading_ok := fun hr => h.reading_ok (hreading hr) }

/-- A conversion makes the result valid in place of the Reading it consumes. -/
theorem DataInv.convertBody (h : DataInv p s) (hreading : s.flags.readingValid = true) (herr : s.err = .clear) :
    DataInv p s.convertBody := by
  have hcounts : s.flags.countsValid = false :=
    Bool.eq_false_iff.2 fun hc => by simpa [hreading] using h.one_valid.1 hc
  exact {
    one_valid := by simp [Flags.converted, hcounts]
    err_flags := by simp [herr, ErrorReg.clear]
    err_zero := h.err_zero
    err_differ := h.err_differ
    counts_le := h.counts_le
    counts_ok := fun _ => h.counts_ok (.inr (.inl hreading))
    sum_le := fun _ => h.sum_le (.inl hreading)
    thresh_le := fun _ => h.thresh_le (.inl hreading)
    reading_ok := by simp [Flags.converted] }

/-- A decode that succeeds has a Reading in place of the counts it consumes. -/
theorem DecodingInv.data_writeDecode (h : DecodingInv p s) (hok : checksumOk (packBytes s.counts) = true) :
    DataInv p s.writeDecode := by
  obtain ⟨-, hresult⟩ := h.data.one_valid.1 h.ready
  have hcounts := h.data.counts_ok (.inl h.ready)
  have hsum := specSumLow_le hcounts
  exact {
    one_valid := by simp [Flags.decoded, hok, hresult]
    err_flags := by simp [h.err, ErrorReg.clear]
    err_zero := h.data.err_zero
    err_differ := h.data.err_differ
    counts_le := h.data.counts_le
    counts_ok := fun _ => hcounts
    sum_le := fun _ => by simpa [sumLowOf_eq] using hsum
    thresh_le := fun _ => by simp only [State.writeDecode_thresh, threshOf_eq]; omega
    reading_ok := fun _ => (checksumOk_iff _).1 hok }

/-- A decode that fails leaves nothing valid, and the two bytes it compared. -/
theorem DecodingInv.data_checksumError (h : DecodingInv p s) (hok : checksumOk (packBytes s.counts) = false) :
    DataInv p (s.writeDecode.raiseError
      (.checksum (expectedChecksum (packBytes s.counts)) (computedChecksum (packBytes s.counts)))) := by
  obtain ⟨hreading, hresult⟩ := h.data.one_valid.1 h.ready
  have hcounts := h.data.counts_ok (.inl h.ready)
  have hsum := specSumLow_le hcounts
  have hne : expectedChecksum (packBytes s.counts) ≠ computedChecksum (packBytes s.counts) := by
    simpa [checksumOk] using hok
  exact {
    one_valid := by simp [Flags.decoded, hok, hreading, hresult]
    err_flags := fun _ => by simp [Flags.NoneValid, Flags.decoded, hok, hreading, hresult]
    err_zero := by simp [ErrorReg.checksum]
    err_differ := fun _ => hne
    counts_le := by simp [ErrorReg.checksum]
    counts_ok := fun _ => hcounts
    sum_le := fun _ => by simpa [sumLowOf_eq] using hsum
    thresh_le := fun _ => by simp only [State.raiseError_thresh, State.writeDecode_thresh, threshOf_eq]; omega
    reading_ok := by simp [Flags.decoded, hok, hreading] }

/-! ### The inputs -/

theorem IdleInv.poll (h : IdleInv p s) (l : Level) : IdleInv p (s.poll l) := { h with data := { h.data with } }

theorem IdleInv.pinWrite (h : IdleInv p s) (l : Level) : IdleInv p (s.pinWrite l) := { h with data := { h.data with } }

theorem IdleInv.pinMode (h : IdleInv p s) (d : Direction) : IdleInv p (s.pinMode d) :=
  { h with data := { h.data with } }

theorem IdleInv.beginCapture (h : IdleInv p s) : CapturingInv p s.beginCapture where
  upc := congrArg Position.upc h.pos_rest
  bound := h.bound
  err := rfl
  data := .of_noneValid ⟨rfl, rfl, rfl⟩ rfl
  released := by rintro ⟨⟩
  st := rfl
  op := .inl rfl
  flags := ⟨rfl, rfl, rfl⟩
  counts := by simp [State.beginCapture]

theorem IdleInv.beginDecode (h : IdleInv p s) (hcounts : s.flags.countsValid = true) : DecodingInv p s.beginDecode where
  upc := congrArg Position.upc h.pos_rest
  bound := h.bound
  err := rfl
  data := { h.data.cleared (f := s.flags.cascadeDecode) id (by simp) rfl with }
  released := by rintro ⟨⟩
  st := rfl
  op := .inl rfl
  slot := congrArg Position.slot h.pos_rest
  phase := congrArg Position.phase h.pos_rest
  ready := hcounts

theorem IdleInv.cascadeThenConvert (h : IdleInv p s) (hreading : s.flags.readingValid = true) :
    IdleInv p s.cascadeThenConvert where
  pos_rest := h.pos_rest
  bound := h.bound
  kind := by simp [ErrorReg.clear]
  data := (h.data.cleared (f := s.flags.cascadeConvert) id id rfl).convertBody hreading rfl

theorem IdleInv.beginRead (h : IdleInv p s) : WakingInv s.beginRead where
  row := rfl
  op := rfl
  slot := congrArg Position.slot h.pos_rest
  phase := congrArg Position.phase h.pos_rest
  bound := h.bound
  err := rfl
  flags := ⟨rfl, rfl, rfl⟩
  driving := by simp
  high := by simp

/-- Every operation that is accepted keeps the invariant in its first step. -/
theorem IdleInv.effect (h : IdleInv p s) {i : Instr} (hneeds : needs i s = true) : Inv p (effect i s) := by
  cases i with
  | isLow => exact (h.poll .low).inv
  | isHigh => exact (h.poll .high).inv
  | setLow => exact (h.pinWrite .low).inv
  | setHigh => exact (h.pinWrite .high).inv
  | setMode d => exact (h.pinMode d).inv
  | capture => exact h.beginCapture.inv
  | decode => exact (h.beginDecode hneeds).inv
  | convert => exact (h.cascadeThenConvert hneeds).inv
  | read => exact h.beginRead.inv

theorem needs_accept (i : Instr) (s : State) : needs i s.accept = needs i s := by cases i <;> rfl

theorem Inv.exec (h : Inv p s) (i : Instr) : ∃ t, exec i s = .next t ∧ Inv p t := by
  rcases exec_cases i s with ⟨hport, hneeds, hexec⟩ | ⟨-, hexec⟩
  · exact ⟨_, hexec, (h.idle hport.2).accept.effect (by rwa [needs_accept])⟩
  · exact ⟨_, hexec, h.refuse⟩

/-- A reset, from whatever state, leaves the invariant. -/
theorem inv_resetBlock (p : Params) (ok : Bool) (s : State) : Inv p (s.resetBlock ok) := by
  cases ok with
  | true => exact IdleInv.inv ⟨rfl, rfl, by simp [State.resetWith], .of_noneValid ⟨rfl, rfl, rfl⟩ rfl⟩
  | false =>
    constructor <;> simp [State.resetWith, Position.restAt, Position.opFits, SessionState.waking, Flags.NoneValid,
      State.busy, SessionState.busy, State.Decoded]

theorem Inv.applyInput (h : Inv p s) (i : Input) : ∃ t, applyInput i s = .next t ∧ Inv p t := by
  cases i with
  | read r => exact ⟨_, rfl, h.hostRead r⟩
  | reset ok => exact ⟨_, rfl, inv_resetBlock p ok s⟩
  | write r v =>
    rcases hostWrite_cases r v s with ⟨-, i, -, hwrite⟩ | ⟨-, -, hwrite⟩ | ⟨-, hwrite⟩
    · obtain ⟨t, hexec, ht⟩ := h.exec i
      exact ⟨t, hwrite.trans hexec, ht⟩
    · exact ⟨_, hwrite, h.refuse⟩
    · exact ⟨_, hwrite, h⟩

/-! ### The steps of the sequencer -/

@[simp] theorem State.microStepped_flags (s : State) : s.microStepped.flags = s.flags := by
  unfold State.microStepped
  cases (microStep s.pos.upc).op <;> rfl

@[simp] theorem State.microStepped_err (s : State) : s.microStepped.err = s.err := by
  unfold State.microStepped
  cases (microStep s.pos.upc).op <;> rfl

@[simp] theorem State.microStepped_curOp (s : State) : s.microStepped.pos.curOp = s.pos.curOp := by
  unfold State.microStepped
  cases (microStep s.pos.upc).op <;> rfl

/-- The wake sequence does not move the capture's position, which its release sets to the start. -/
theorem WakingInv.slot_phase_microStepped (h : WakingInv s) :
    s.microStepped.pos.slot = 0 ∧ s.microStepped.pos.phase = .low := by
  unfold State.microStepped
  cases (microStep s.pos.upc).op with
  | releaseAndCapture => exact ⟨rfl, rfl⟩
  | setMode d => exact ⟨h.slot, h.phase⟩
  | setLevel l => exact ⟨h.slot, h.phase⟩
  | hold t => exact ⟨h.slot, h.phase⟩

/-- Before the release the wake sequence drives the line from its first micro-step on, and high from micro-step 5 on. -/
theorem WakingInv.pin_microStepped (h : WakingInv s) (hlast : s.pos.upc ≠ 7) :
    s.microStepped.pin.dir = .output ∧
      (s.microStepped.pos.upc = 6 ∨ s.microStepped.pos.upc = 7 → s.microStepped.pin.out = .high) := by
  have hdriving := h.driving
  have hhigh := h.high
  unfold State.microStepped
  generalize s.pos.upc = u at *
  fin_cases u <;> simp_all [microStep, MicroOp.run]

theorem WakingInv.microStepped (h : WakingInv s) : Inv p s.microStepped := by
  by_cases hlast : s.pos.upc = 7
  · have hentry : s.microStepped = ((s.pinMode .input).captureEntry).moveTo .capturing 0 := by
      simp [State.microStepped, hlast, microStep, MicroOp.run]
    rw [hentry]
    exact CapturingInv.inv {
      upc := rfl
      bound := h.bound
      err := h.err
      data := .of_noneValid h.flags h.err
      released := fun _ => ⟨rfl, h.high (.inr hlast)⟩
      st := rfl
      op := .inr h.op
      flags := h.flags
      counts := by simp }
  · obtain ⟨hdriving, hhigh⟩ := h.pin_microStepped hlast
    exact WakingInv.inv {
      row := (State.microStepped_onRow (s := s) (v := ⟨s.pos.upc.val + 1, by omega⟩) rfl).2
      op := by simpa using h.op
      slot := h.slot_phase_microStepped.1
      phase := h.slot_phase_microStepped.2
      bound := by simpa using h.bound
      err := by simpa using h.err
      flags := by simpa using h.flags
      driving := fun _ => hdriving
      high := hhigh }

theorem CapturingInv.sampled (h : CapturingInv p s) (r : Bool) : CapturingInv p (s.sampled r) :=
  { h with data := { h.data with }, released := h.released }

/-- A capture that completes has its counts, and nothing else is valid. -/
theorem CapturingInv.data_captured (h : CapturingInv p s) : DataInv p { s with flags := s.flags.captured } := by
  obtain ⟨-, hreading, hresult⟩ := h.flags
  constructor <;> simp [Flags.captured, h.err, ErrorReg.clear, State.Decoded, hreading, hresult]
  case counts_ok => simpa using h.counts

/-- A capture that times out has nothing valid, and its counters are at most one above the bound. -/
theorem DataInv.readTimeout (hflags : s.flags.NoneValid) (hcounts : ∀ i : Fin 82, s.counts[i] ≤ p.maxPoll + 1) :
    DataInv p (s.raiseError .readTimeout) := by
  obtain ⟨hvalid, hreading, hresult⟩ := id hflags
  constructor <;> simp [ErrorReg.readTimeout, State.Decoded, hvalid, hreading, hresult]
  case err_flags => exact hflags
  case counts_le => simpa using hcounts

/-- A counted poll stays in the capture below the bound, and past it ends the capture with its counters one above at
most. -/
theorem CapturingInv.countPoll (h : CapturingInv p s) : Inv p (countPoll p.maxPoll s) := by
  rcases countPoll_cases p.maxPoll s with ⟨hle, hcount⟩ | ⟨-, htimeout⟩
  · rw [hcount]
    exact CapturingInv.inv { h with
      data := .of_noneValid h.flags h.err
      released := h.released
      counts := fun i => by
        have hi := h.counts i
        simp only [State.setCounter_counts, Fin.getElem_fin, Vector.getElem_set] at hi ⊢
        split <;> omega }
  · rw [htimeout]
    exact IdleInv.inv {
      pos_rest := rfl
      bound := h.bound
      kind := by simp [ErrorReg.readTimeout]
      data := .readTimeout h.flags fun i => by
        have hi := h.counts i
        have hpoll := h.counts (pollIndex s.pos.slot s.pos.phase)
        simp only [State.setCounter_counts, State.counter, Fin.getElem_fin, Vector.getElem_set] at hi hpoll ⊢
        split <;> omega }

theorem CapturingInv.endLoop (h : CapturingInv p s) : ∃ t, endLoop s = .next t ∧ Inv p t := by
  rcases endLoop_cases s with ⟨-, hend⟩ | ⟨-, n, -, hend⟩ | ⟨-, -, -, hend⟩ | ⟨-, -, hop, hend⟩ | ⟨-, -, hop, -⟩
  · exact ⟨_, hend, CapturingInv.inv { h with data := { h.data with }, released := h.released }⟩
  · exact ⟨_, hend, CapturingInv.inv { h with data := { h.data with }, released := h.released }⟩
  · exact ⟨_, hend, IdleInv.inv {
      pos_rest := rfl
      bound := h.bound
      kind := by simp [h.err, ErrorReg.clear]
      data := { h.data_captured with } }⟩
  · exact ⟨_, hend, DecodingInv.inv { h with
      data := { h.data_captured with }
      released := h.released
      st := rfl
      op := .inr hop
      slot := rfl
      phase := rfl
      ready := rfl }⟩
  · rcases h.op with e | e <;> simp [e] at hop

theorem CapturingInv.captureStep (h : CapturingInv p s) : ∃ t, captureStep p s = .next t ∧ Inv p t := by
  rcases captureStep_cases p s with ⟨-, hstep⟩ | ⟨-, hstep⟩
  · exact ⟨_, hstep, by rw [State.poll_eq_sampled]; exact (h.sampled _).countPoll⟩
  · rw [hstep, State.poll_eq_sampled]; exact (h.sampled _).endLoop

theorem DecodingInv.decodeStep (h : DecodingInv p s) : ∃ t, decodeStep s = .next t ∧ Inv p t := by
  rcases decodeStep_cases s with ⟨hok, -, hstep⟩ | ⟨hok, hop, hstep⟩ | ⟨-, hop, -⟩ | ⟨hok, hstep⟩
  · exact ⟨_, hstep, IdleInv.inv {
      pos_rest := rfl
      bound := h.bound
      kind := by simp [h.err, ErrorReg.clear]
      data := { h.data_writeDecode hok with } }⟩
  · exact ⟨_, hstep, DoneInv.inv { h with
      data := { h.data_writeDecode hok with }
      released := h.released
      st := rfl
      op := hop
      ready := by simp_all [Flags.decoded] }⟩
  · rcases h.op with e | e <;> simp [e] at hop
  · exact ⟨_, hstep, IdleInv.inv {
      pos_rest := rfl
      bound := h.bound
      kind := by simp [ErrorReg.checksum]
      data := h.data_checksumError hok }⟩

theorem DoneInv.doneStep (h : DoneInv p s) : IdleInv p s.doneStep where
  pos_rest := rfl
  bound := h.bound
  kind := by simp [State.doneStep, h.err, ErrorReg.clear]
  data := { h.data.convertBody h.ready h.err with }

theorem sequencerStep_idle (p : Params) {s : State} (h : s.pos.st = .idle) : sequencerStep p s = .next s := by
  simp only [sequencerStep, h]

theorem sequencerStep_initFailed (p : Params) {s : State} (h : s.pos.st = .initFailed) :
    sequencerStep p s = .next s := by
  simp only [sequencerStep, h]

/-- Under the invariant the sequencer always has a step, which keeps it. -/
theorem Inv.sequencerStep (h : Inv p s) : ∃ t, sequencerStep p s = .next t ∧ Inv p t := by
  by_cases hwaking : s.pos.st.waking = true
  · have hw := h.waking hwaking
    exact ⟨_, sequencerStep_onRow p hw.row, hw.microStepped⟩
  cases hst : s.pos.st with
  | idle => exact ⟨s, sequencerStep_idle p hst, h⟩
  | initFailed => exact ⟨s, sequencerStep_initFailed p hst, h⟩
  | wakeHigh | startLow | ackWait => simp [hst, SessionState.waking] at hwaking
  | capturing => rw [sequencerStep_capturing p hst]; exact (h.capturing hst).captureStep
  | decoding => rw [sequencerStep_decoding p hst]; exact (h.decoding hst).decodeStep
  | done => exact ⟨_, sequencerStep_done p hst, (h.done hst).doneStep.inv⟩

/-- Under the invariant the machine always has a step, which keeps it. -/
theorem Inv.stepWith (h : Inv p s) : ∃ t, stepWith p s = .next t ∧ Inv p t := by
  rcases stepWith_cases p s with ⟨e, rest, -, -, hstep⟩ | ⟨l, hstep⟩
  · rw [hstep]; exact (h.with_inputs rest).applyInput e.input
  · rw [hstep]; exact (h.with_inputs l).sequencerStep

end

/-- Settles O45: the machine has one next state, and it is the one that meets the invariant. -/
theorem everyStepKeepsTheInvariant : Obligations.EveryStepKeepsTheInvariant := by
  intro p s t h hstep
  obtain ⟨u, hnext, hu⟩ := h.stepWith
  rw [hstep] at hnext
  cases hnext
  exact hu

/-- Settles O46: in each session state the invariant leaves only positions with a row in the table. -/
theorem noStepStopsUnderTheInvariant : Obligations.NoStepStopsUnderTheInvariant := fun _ _ h => h.stepWith

/-- Settles O44: the state after reset is itself a reset block. -/
theorem resetMeetsTheInvariant : Obligations.ResetMeetsTheInvariant := fun p ok => inv_resetBlock p ok (.resetWith ok)

/-! ### InitFailed -/

/-- At a closed port a write to CMD is refused, and the other registers ignore theirs. -/
theorem hostWrite_closed {s : State} (h : ¬ s.Admits) (r : Nat) (v : HostWord) :
    hostWrite r v s = .next (if r = 0 then s.refuse else s) := by
  rcases hostWrite_cases r v s with ⟨rfl, i, -, hwrite⟩ | ⟨rfl, -, hwrite⟩ | ⟨hne, hwrite⟩
  · exact hwrite.trans (exec_refused (.inl h))
  · exact hwrite
  · rw [hwrite, if_neg hne]

/-- What can happen to a block in InitFailed while no reset is due: a refusal, a read, or nothing. -/
theorem stepWith_initFailed {p : Params} {s t : State} (hst : s.pos.st = .initFailed) (hstep : stepWith p s = .next t)
    (hreset : ∀ a ok rest, s.inputs = ⟨a, .reset ok⟩ :: rest → a.due s.busy = false) :
    ∃ l, t = { s with inputs := l } ∨ t = State.refuse { s with inputs := l } ∨
      ∃ r, t = State.hostRead r { s with inputs := l } := by
  rcases stepWith_cases p s with ⟨⟨a, i⟩, rest, hinputs, hdue, happly⟩ | ⟨l, hseq⟩
  · refine ⟨rest, ?_⟩
    rw [happly] at hstep
    cases i with
    | reset ok => simp [hreset a ok rest hinputs] at hdue
    | read r => cases hstep; exact .inr (.inr ⟨r, rfl⟩)
    | write r v =>
      have hclosed : ¬ State.Admits { s with inputs := rest } := fun hport => by simpa [hst] using hport.2
      have hwrite := (hostWrite_closed hclosed r v).symm.trans hstep
      split at hwrite <;> cases hwrite
      · exact .inr (.inl rfl)
      · exact .inl rfl
  · rw [hseq, sequencerStep_initFailed p (s := { s with inputs := l }) hst] at hstep
    cases hstep
    exact ⟨l, .inl rfl⟩

/-- Settles O43: the invariant ties the flag, the pin and ERR to InitFailed; the port is closed there and the sequencer
at rest. -/
theorem initFailedIsLeftOnlyByReset : Obligations.InitFailedIsLeftOnlyByReset := by
  intro p s h hst
  have hinit : s.flags.initFail = true := h.init_flag.2 hst
  have hinput : s.pin.dir = .input := h.init_pin hst
  obtain ⟨-, -, hresult⟩ := h.err_flags (by simp [h.init_kind.2 hst])
  have hclosed : ¬ s.Admits := fun hport => by simpa [hst] using hport.2
  refine ⟨by simp [State.busy, hst, SessionState.busy], hinput, by simp [State.driven, hinput],
    sequencerStep_initFailed p hst, fun v => hostWrite_closed hclosed 0 v, fun t hstep hreset => ?_⟩
  obtain ⟨l, rfl | rfl | ⟨r, rfl⟩⟩ := stepWith_initFailed hst hstep hreset
  · exact ⟨rfl, hinit, rfl, rfl, rfl, hresult, rfl⟩
  · exact ⟨rfl, hinit, rfl, rfl, rfl, hresult, rfl⟩
  · exact ⟨rfl, hinit, rfl, rfl, rfl, hresult, rfl⟩

end Sys2Proof.Machine
end

section
/-! SUPPORT. Runs of a capture (41_pulse_capture.md section 4). The 82 poll loops, low and high by turns, are numbered
as the counters are. From the same loop, counters and line every capture ends in the same way, and a line that shows
given counts ends it with these. -/

namespace Sys2Proof.Machine

/-! ### The poll loops -/

/-- The slot of the loop that counts into `x[i]`. -/
def loopSlot (i : Fin 82) : Fin 41 := ⟨i.val / 2, by omega⟩

/-- The phase of the loop that counts into `x[i]`. -/
def loopPhase (i : Fin 82) : Phase := if i.val % 2 = 0 then .low else .high

/-- The level that the loop waits out. -/
def loopLevel (i : Fin 82) : Level := (loopPhase i).waitsOut

theorem pollIndex_loop (i : Fin 82) : pollIndex (loopSlot i) (loopPhase i) = i := by
  apply Fin.ext
  by_cases heven : i.val % 2 = 0
  · simp only [loopPhase, heven, if_true, pollIndex, lowIndex, loopSlot]; omega
  · simp only [loopPhase, heven, if_false, pollIndex, highIndex, loopSlot]; omega

theorem loopSlot_pollIndex (slot : Fin 41) (phase : Phase) : loopSlot (pollIndex slot phase) = slot := by
  apply Fin.ext
  cases phase <;> simp only [pollIndex, lowIndex, highIndex, loopSlot] <;> omega

theorem loopPhase_pollIndex (slot : Fin 41) (phase : Phase) : loopPhase (pollIndex slot phase) = phase := by
  cases phase with
  | low => exact if_pos (by simp only [pollIndex, lowIndex]; omega)
  | high => exact if_neg (by simp only [pollIndex, highIndex]; omega)

/-- Polling in the loop that counts into `x[i]`. -/
structure State.AtLoop (s : State) (i : Fin 82) : Prop where
  st : s.pos.st = .capturing
  slot : s.pos.slot = loopSlot i
  phase : s.pos.phase = loopPhase i

/-- The sequencer moved to loop `i`. -/
def State.toLoop (i : Fin 82) (s : State) : State :=
  { s with pos := { s.pos with slot := loopSlot i, phase := loopPhase i } }

theorem State.AtLoop.toLoop {s : State} {i : Fin 82} (h : s.AtLoop i) (j : Fin 82) : (s.toLoop j).AtLoop j :=
  ⟨h.st, rfl, rfl⟩

theorem State.AtLoop.toLoop_eq {s : State} {i : Fin 82} (h : s.AtLoop i) : s.toLoop i = s := by
  rw [State.toLoop, ← h.slot, ← h.phase]

theorem State.AtLoop.of_pollIndex {s : State} (h : s.pos.st = .capturing) :
    s.AtLoop (pollIndex s.pos.slot s.pos.phase) :=
  ⟨h, (loopSlot_pollIndex _ _).symm, (loopPhase_pollIndex _ _).symm⟩

/-! ### The state after some polls -/

/-- `s` after polls that took the samples `taken`: the counters then, the last answer, and the line still to come. -/
def State.polled (s : State) (taken : List Level) (x : Vector Nat 82) (res : Bool) (line : List Level) (draws : Nat) :
    State :=
  { s with
    counts := x
    pin := { s.pin with res := res }
    history := s.history ++ taken.map .sample
    line := line
    lineDraws := draws }

/-- `s` after one poll, with the counters `x` then and the answer `res`. -/
def State.polledOnce (s : State) (x : Vector Nat 82) (res : Bool) : State :=
  s.polled [s.nextLevel] x res s.line.tail (if s.line = [] then s.lineDraws + 1 else s.lineDraws)

theorem State.polled_nil (s : State) : s.polled [] s.counts s.pin.res s.line s.lineDraws = s := by
  simp [State.polled]

theorem State.polled_polled (s : State) (v w : List Level) (x y : Vector Nat 82) (q r : Bool) (l m : List Level)
    (c d : Nat) : (s.polled v x q l c).polled w y r m d = s.polled (v ++ w) y r m d := by
  simp [State.polled]

theorem State.polledOnce_of_line {s : State} {v : Level} {rest : List Level} (h : s.line = v :: rest)
    (x : Vector Nat 82) (res : Bool) : s.polledOnce x res = s.polled [v] x res rest s.lineDraws := by
  simp [State.polledOnce, h, State.nextLevel_of_line_eq_cons h]

/-- Polls keep the loop. -/
theorem State.AtLoop.polled {s : State} {i : Fin 82} (h : s.AtLoop i) (w : List Level) (x : Vector Nat 82) (r : Bool)
    (l : List Level) (d : Nat) : (s.polled w x r l d).AtLoop i := { h with }

theorem State.AtLoop.polledOnce {s : State} {i : Fin 82} (h : s.AtLoop i) (x : Vector Nat 82) (r : Bool) :
    (s.polledOnce x r).AtLoop i := h.polled ..

/-! ### One poll -/

section
variable {p : Params} {s : State} {i : Fin 82} (h : s.AtLoop i)
include h

theorem State.AtLoop.counted (hlevel : s.nextLevel = loopLevel i) (hle : s.counts[i] + 1 ≤ p.maxPoll) :
    sequencerStep p s = .next (s.polledOnce (s.counts.set i (s.counts[i] + 1)) true) := by
  have hindex : pollIndex s.pos.slot (loopPhase i) = i := by rw [h.slot, pollIndex_loop]
  have hstep := sequencerStep_counted (p := p) h.st h.phase hlevel (by rw [hindex]; exact hle)
  rw [hindex] at hstep
  exact hstep

theorem State.AtLoop.timedOut (hlevel : s.nextLevel = loopLevel i) (hgt : p.maxPoll < s.counts[i] + 1) :
    sequencerStep p s =
      .next ((s.polledOnce (s.counts.set i (s.counts[i] + 1)) true).raiseError .readTimeout) := by
  have hindex : pollIndex s.pos.slot (loopPhase i) = i := by rw [h.slot, pollIndex_loop]
  have hstep := sequencerStep_timedOut (p := p) h.st h.phase hlevel (by rw [hindex]; exact hgt)
  rw [hindex] at hstep
  exact hstep

/-- The end of a loop leads to the next one. -/
theorem State.AtLoop.handsOver (hlevel : s.nextLevel ≠ loopLevel i) {j : Fin 82} (hj : j.val = i.val + 1) :
    sequencerStep p s = .next ((s.polledOnce s.counts false).toLoop j) := by
  rw [sequencerStep_loopEnds h.st h.phase hlevel]
  by_cases heven : i.val % 2 = 0
  · have hslot : loopSlot j = s.pos.slot := by rw [h.slot]; apply Fin.ext; simp only [loopSlot]; omega
    have hphase : loopPhase j = .high := if_neg (by omega)
    rw [endLoop_low (s := s.sampled false) (h.phase.trans (if_pos heven)), State.toLoop, hslot, hphase]
    rfl
  · have hslot : (loopSlot j).val = s.pos.slot.val + 1 := by rw [h.slot]; simp only [loopSlot]; omega
    have hphase : loopPhase j = .low := if_pos (by omega)
    rw [endLoop_high (s := s.sampled false) (h.phase.trans (if_neg heven)),
      slotAdvance_next (s := s.sampled false) hslot, State.toLoop, hphase]
    rfl

/-- The end of the last loop completes the capture. -/
theorem State.AtLoop.completes (hlevel : s.nextLevel ≠ loopLevel i) (hi : i = 81) :
    sequencerStep p s = captureComplete (s.polledOnce s.counts false) := by
  subst hi
  rw [sequencerStep_loopEnds h.st h.phase hlevel]
  exact (endLoop_high (s := s.sampled false) h.phase).trans (slotAdvance_last (s := s.sampled false) h.slot)

end

/-! ### Runs -/

/-- Every host event still to come waits for the end of what is running, as the lines of a host program do. -/
def State.Patient (s : State) : Prop := ∀ e ∈ s.inputs, e.arrival = .whenIdle

theorem State.patient_of_quiet {s : State} (h : s.inputs = []) : s.Patient := by
  simp [State.Patient, h]

/-- Host events that wait for Idle leave a busy sequencer alone. -/
theorem stepWith_patient {p : Params} {s : State} (h : s.Patient) (hbusy : s.busy = true) :
    stepWith p s = sequencerStep p s := by
  cases hinputs : s.inputs with
  | nil => exact stepWith_quiet p hinputs
  | cons e rest =>
    have he : e.arrival = .whenIdle := h e (by simp [hinputs])
    have hdue : e.arrival.due s.busy = false := by simp [he, Arrival.due, hbusy]
    have htick : tickInputs s.inputs = s.inputs := by
      rw [hinputs]
      show { e with arrival := e.arrival.tick } :: rest = e :: rest
      rw [he, Arrival.tick, ← he]
    rw [stepWith_waiting p hinputs hdue, htick]

theorem State.AtLoop.busy {s : State} {i : Fin 82} (h : s.AtLoop i) : s.busy = true := by
  simp [State.busy, h.st, SessionState.busy]

@[simp] theorem runWith_one (p : Params) (s : State) : runWith p 1 s = stepWith p s := by
  unfold runWith
  cases stepWith p s <;> rfl

/-- A loop that finds its own level `n` times counts to `n` more. -/
theorem State.AtLoop.runWith_counting {p : Params} {s : State} {i : Fin 82} (h : s.AtLoop i) (hp : s.Patient) {n : Nat}
    {rest : List Level} (hline : s.line = List.replicate n (loopLevel i) ++ rest) (hle : s.counts[i] + n ≤ p.maxPoll) :
    runWith p n s = .next (s.polled (List.replicate n (loopLevel i)) (s.counts.set i (s.counts[i] + n))
      (decide (0 < n) || s.pin.res) rest s.lineDraws) := by
  induction n generalizing s with
  | zero =>
    obtain rfl : s.line = rest := hline
    have hcounts : s.counts.set i (s.counts[i] + 0) = s.counts := Vector.set_getElem_self _
    rw [hcounts]
    exact congrArg _ s.polled_nil.symm
  | succ n ih =>
    rw [List.replicate_succ, List.cons_append] at hline
    have hstep : stepWith p s = .next (s.polled [loopLevel i] (s.counts.set i (s.counts[i] + 1)) true
        (List.replicate n (loopLevel i) ++ rest) s.lineDraws) := by
      rw [stepWith_patient hp h.busy, h.counted (State.nextLevel_of_line_eq_cons hline) (by omega),
        State.polledOnce_of_line hline]
    have hcount : (s.counts.set i (s.counts[i] + 1))[i] = s.counts[i] + 1 := Vector.getElem_set_self _
    rw [runWith_succ hstep, ih (h.polled ..) hp rfl (by simp only [State.polled, hcount]; omega), State.polled_polled]
    simp only [State.polled, hcount, Vector.set_set, Nat.add_assoc, Nat.add_comm 1 n]
    simp [List.replicate_succ]

/-! ### A loop that stalls -/

/-- The poll that counts past the bound ends the capture. -/
theorem State.AtLoop.runWith_stalled {p : Params} {s : State} {i : Fin 82} (h : s.AtLoop i) (hp : s.Patient) {n : Nat}
    {rest : List Level} (hline : s.line = List.replicate (n + 1) (loopLevel i) ++ rest)
    (hn : s.counts[i] + n = p.maxPoll) :
    runWith p (n + 1) s = .next ((s.polled (List.replicate (n + 1) (loopLevel i)) (s.counts.set i (p.maxPoll + 1)) true
      rest s.lineDraws).raiseError .readTimeout) := by
  have hsplit : s.line = List.replicate n (loopLevel i) ++ (loopLevel i :: rest) := by
    simpa [List.replicate_succ'] using hline
  have hcounting := h.runWith_counting hp hsplit hn.le
  rw [runWith_add hcounting 1]
  rw [hn] at hcounting ⊢
  set u := s.polled (List.replicate n (loopLevel i)) (s.counts.set i p.maxPoll) (decide (0 < n) || s.pin.res)
    (loopLevel i :: rest) s.lineDraws with hu
  have hat : u.AtLoop i := h.polled ..
  have hcount : u.counts[i] = p.maxPoll := Vector.getElem_set_self _
  have hlevel : u.nextLevel = loopLevel i := State.nextLevel_of_line_eq_cons rfl
  have hstep : stepWith p u =
      .next ((u.polledOnce (u.counts.set i (u.counts[i] + 1)) true).raiseError .readTimeout) := by
    rw [stepWith_patient (s := u) hp hat.busy]
    exact hat.timedOut hlevel (by omega)
  rw [runWith_one, hstep, State.polledOnce_of_line rfl, hcount, hu, State.polled_polled]
  simp only [State.polled, Vector.set_set, List.replicate_succ']

/-- Settles O23: the loop's number fits either phase; the loop counts poll by poll up to the bound, and the next poll
counts past it. -/
theorem stalledLoopTimesOut : Obligations.StalledLoopTimesOut := by
  intro p s rest hst hquiet lvl i n hle hline
  have hi : i = pollIndex s.pos.slot s.pos.phase := by
    simp only [i]; cases s.pos.phase <;> rfl
  have hat : s.AtLoop i := hi ▸ State.AtLoop.of_pollIndex hst
  have hlvl : lvl = loopLevel i := by
    rw [loopLevel, ← hat.phase]
    simp only [lvl]; cases s.pos.phase <;> rfl
  have hp := State.patient_of_quiet hquiet
  constructor
  · intro k hk
    have hsplit : s.line = List.replicate k (loopLevel i) ++ (List.replicate (n - k) (loopLevel i) ++ rest) := by
      rw [hline, hlvl, ← List.append_assoc, ← List.replicate_add, Nat.add_sub_cancel' hk.le]
    exact ⟨_, hat.runWith_counting hp hsplit (by omega), rfl, Vector.getElem_set_self _⟩
  · obtain ⟨m, hm⟩ : ∃ m, n = m + 1 := ⟨p.maxPoll - s.counts[i], by omega⟩
    rw [hm, hlvl] at hline ⊢
    rw [hat.runWith_stalled hp hline (by omega)]
    simp only [State.polled, List.map_replicate]
    rfl

/-! ### How a capture ends -/

/-- What the polls of a capture have done when it ends: the samples they took, the counters, the last answer and the
line still to come, and whether all 82 loops were filled. -/
structure CaptureEnd where
  taken : List Level
  counts : Vector Nat 82
  res : Bool
  line : List Level
  draws : Nat
  full : Bool

/-- A capture's polls and then those of another end. -/
def CaptureEnd.after (w : List Level) (e : CaptureEnd) : CaptureEnd := { e with taken := w ++ e.taken }

/-- The state after the polls. -/
def CaptureEnd.polls (e : CaptureEnd) (s : State) : State := s.polled e.taken e.counts e.res e.line e.draws

/-- What the last poll's step answers. -/
def CaptureEnd.result (e : CaptureEnd) (s : State) : Result :=
  if e.full then captureComplete (e.polls s) else .next ((e.polls s).raiseError .readTimeout)

/-- The run from `s` ends in that way. -/
def CaptureEnd.EndsRun (e : CaptureEnd) (p : Params) (s : State) : Prop := runWith p e.taken.length s = e.result s

theorem CaptureEnd.result_of_full {e : CaptureEnd} (h : e.full = true) (s : State) :
    e.result s = captureComplete (e.polls s) := if_pos h

theorem CaptureEnd.result_of_not_full {e : CaptureEnd} (h : e.full = false) (s : State) :
    e.result s = .next ((e.polls s).raiseError .readTimeout) := if_neg (by simp [h])

/-- The completion of a capture does not read the loop it is in. -/
theorem captureComplete_toLoop (s : State) (j : Fin 82) : captureComplete (s.toLoop j) = captureComplete s := by
  unfold captureComplete
  cases hop : s.pos.curOp <;> simp [State.toLoop, hop, State.returnToIdle]

theorem CaptureEnd.result_after (e : CaptureEnd) (s : State) (w : List Level) (x : Vector Nat 82) (r : Bool)
    (l : List Level) (d : Nat) (j : Fin 82) :
    e.result ((s.polled w x r l d).toLoop j) = (e.after w).result s := by
  have hpolls : e.polls ((s.polled w x r l d).toLoop j) = ((e.after w).polls s).toLoop j :=
    congrArg (State.toLoop j) (s.polled_polled w e.taken x e.counts r e.res l e.line d e.draws)
  cases hfull : e.full with
  | true => rw [result_of_full hfull, result_of_full (e := e.after w) hfull, hpolls, captureComplete_toLoop]
  | false => rw [result_of_not_full hfull, result_of_not_full (e := e.after w) hfull, hpolls]; rfl

/-- A run that polls its way to another loop ends as the run from there. -/
theorem CaptureEnd.endsRun_after {e : CaptureEnd} {p : Params} {s : State} {w : List Level} {x : Vector Nat 82}
    {r : Bool} {l : List Level} {d : Nat} {j : Fin 82}
    (hrun : runWith p w.length s = .next ((s.polled w x r l d).toLoop j))
    (hend : e.EndsRun p ((s.polled w x r l d).toLoop j)) : (e.after w).EndsRun p s := by
  have hlength : (e.after w).taken.length = w.length + e.taken.length := List.length_append
  rw [CaptureEnd.EndsRun, hlength, runWith_add hrun, hend, CaptureEnd.result_after]

/-! ### Every capture ends -/

/-- The captures of the two states stand alike. -/
structure State.SameCapture (s s₀ : State) : Prop where
  counts : s.counts = s₀.counts
  line : s.line = s₀.line
  draws : s.lineDraws = s₀.lineDraws

theorem State.SameCapture.nextLevel {s s₀ : State} (h : s.SameCapture s₀) : s.nextLevel = s₀.nextLevel := by
  rw [State.nextLevel, State.nextLevel, h.line, h.draws]

theorem State.SameCapture.polledOnce {s s₀ : State} (h : s.SameCapture s₀) (x : Vector Nat 82) (r : Bool) (j : Fin 82) :
    ((s.polledOnce x r).toLoop j).SameCapture (s₀.polledOnce x r) := by
  constructor
  · rfl
  · exact congrArg List.tail h.line
  · simp [State.polledOnce, State.polled, State.toLoop, h.line, h.draws]

/-- The run is in Capturing for `n` steps. -/
def CapturingFor (p : Params) (n : Nat) (s : State) : Prop :=
  ∀ j, j < n → ∃ u, runWith p j s = .next u ∧ u.pos.st = .capturing

theorem CapturingFor.one {p : Params} {s : State} (h : s.pos.st = .capturing) : CapturingFor p 1 s := by
  intro j hj
  obtain rfl : j = 0 := by omega
  exact ⟨s, rfl, h⟩

theorem CapturingFor.succ {p : Params} {s t : State} {n : Nat} (h : s.pos.st = .capturing)
    (hstep : stepWith p s = .next t) (ht : CapturingFor p n t) : CapturingFor p (n + 1) s := by
  intro j hj
  cases j with
  | zero => exact ⟨s, rfl, h⟩
  | succ j => rw [runWith_succ hstep]; exact ht j (by omega)

/-- The counters' bounds when a capture ends. -/
def CaptureEnd.Bounded (e : CaptureEnd) (p : Params) : Prop :=
  (∀ i : Fin 82, e.counts[i] ≤ p.maxPoll + 1) ∧ (e.full = true → ∀ i : Fin 82, e.counts[i] ≤ p.maxPoll)

/-- There is one end, at most `n` polls away, of all captures that stand in loop `i` as that of `s₀` does. -/
def CaptureEndsWithin (p : Params) (n : Nat) (i : Fin 82) (s₀ : State) : Prop :=
  ∃ e : CaptureEnd, e.Bounded p ∧ 1 ≤ e.taken.length ∧ e.taken.length ≤ n ∧
    ∀ s, s.AtLoop i → s.Patient → s.SameCapture s₀ → e.EndsRun p s ∧ CapturingFor p e.taken.length s

section
variable {p : Params} {n : Nat} {i : Fin 82} {s₀ : State} {x : Vector Nat 82} {r : Bool}

/-- A poll that goes on leaves one poll less. -/
theorem CaptureEndsWithin.of_goesOn {j : Fin 82}
    (hstep : ∀ s, s.AtLoop i → s.SameCapture s₀ → sequencerStep p s = .next ((s.polledOnce x r).toLoop j))
    (hnext : CaptureEndsWithin p n j (s₀.polledOnce x r)) : CaptureEndsWithin p (n + 1) i s₀ := by
  obtain ⟨e, hbounded, -, hle, hend⟩ := hnext
  refine ⟨e.after [s₀.nextLevel], hbounded, by simp [CaptureEnd.after], by simpa [CaptureEnd.after] using hle,
    fun s hat hp hsame => ?_⟩
  have hs := (stepWith_patient hp hat.busy).trans (hstep s hat hsame)
  obtain ⟨hends, hcapturing⟩ :=
    hend ((s.polledOnce x r).toLoop j) ((hat.polledOnce ..).toLoop j) hp (hsame.polledOnce x r j)
  refine ⟨?_, ?_⟩
  · rw [← hsame.nextLevel]
    exact CaptureEnd.endsRun_after (w := [s.nextLevel]) ((runWith_one p s).trans hs) hends
  · rw [CaptureEnd.after, List.length_append, Nat.add_comm]
    exact .succ hat.st hs hcapturing

/-- A poll that ends the capture. -/
theorem CaptureEndsWithin.of_ends {full : Bool} (hcounts : ∀ j : Fin 82, x[j] ≤ p.maxPoll + 1)
    (hfull : full = true → ∀ j : Fin 82, x[j] ≤ p.maxPoll)
    (hstep : ∀ s, s.AtLoop i → s.SameCapture s₀ → sequencerStep p s =
      if full then captureComplete (s.polledOnce x r) else .next ((s.polledOnce x r).raiseError .readTimeout)) :
    CaptureEndsWithin p (n + 1) i s₀ := by
  refine ⟨⟨[s₀.nextLevel], x, r, s₀.line.tail, if s₀.line = [] then s₀.lineDraws + 1 else s₀.lineDraws, full⟩,
    ⟨hcounts, hfull⟩, le_rfl, by simp, fun s hat hp hsame => ⟨?_, .one hat.st⟩⟩
  have hs := (stepWith_patient hp hat.busy).trans (hstep s hat hsame)
  rw [State.polledOnce, hsame.nextLevel, hsame.line, hsame.draws] at hs
  exact (runWith_one p s).trans hs

theorem CaptureEndsWithin.of_counted (hlevel : s₀.nextLevel = loopLevel i) (hmore : s₀.counts[i] + 1 ≤ p.maxPoll)
    (hnext : CaptureEndsWithin p n i (s₀.polledOnce (s₀.counts.set i (s₀.counts[i] + 1)) true)) :
    CaptureEndsWithin p (n + 1) i s₀ := by
  refine .of_goesOn (fun s hat hsame => ?_) hnext
  rw [← hsame.counts] at hmore ⊢
  rw [hat.counted (hsame.nextLevel.trans hlevel) hmore, (hat.polledOnce ..).toLoop_eq]

theorem CaptureEndsWithin.of_handsOver (hlevel : s₀.nextLevel ≠ loopLevel i) {j : Fin 82} (hj : j.val = i.val + 1)
    (hnext : CaptureEndsWithin p n j (s₀.polledOnce s₀.counts false)) : CaptureEndsWithin p (n + 1) i s₀ := by
  refine .of_goesOn (fun s hat hsame => ?_) hnext
  rw [← hsame.counts]
  exact hat.handsOver (hsame.nextLevel ▸ hlevel) hj

theorem getElem_set_fin (x : Vector Nat 82) (i j : Fin 82) (v : Nat) : (x.set i v)[j] = if i = j then v else x[j] := by
  simp [Vector.getElem_set, Fin.ext_iff]

theorem CaptureEndsWithin.of_timedOut (hle : ∀ j : Fin 82, s₀.counts[j] ≤ p.maxPoll)
    (hlevel : s₀.nextLevel = loopLevel i) (hgt : p.maxPoll < s₀.counts[i] + 1) :
    CaptureEndsWithin p (n + 1) i s₀ := by
  refine .of_ends (full := false) (x := s₀.counts.set i (s₀.counts[i] + 1)) (r := true) (fun j => ?_) (by simp)
    fun s hat hsame => ?_
  · rw [getElem_set_fin]
    have hi := hle i
    have hj := hle j
    split <;> omega
  · rw [← hsame.counts] at hgt ⊢
    exact hat.timedOut (hsame.nextLevel.trans hlevel) hgt

theorem CaptureEndsWithin.of_completes (hle : ∀ j : Fin 82, s₀.counts[j] ≤ p.maxPoll)
    (hlevel : s₀.nextLevel ≠ loopLevel i) (hlast : i = 81) : CaptureEndsWithin p (n + 1) i s₀ := by
  refine .of_ends (full := true) (r := false) (fun j => (hle j).trans (Nat.le_succ _)) (fun _ => hle)
    fun s hat hsame => ?_
  rw [← hsame.counts]
  exact hat.completes (hsame.nextLevel ▸ hlevel) hlast

/-- The polls left when loop `i` has counted `c`: at most one more than the bound allows in it and in each loop after
it. -/
def pollsLeft (p : Params) (i : Fin 82) (c : Nat) : Nat := (81 - i.val) * (p.maxPoll + 1) + (p.maxPoll + 1 - c)

theorem pollsLeft_next {i j : Fin 82} (hj : j.val = i.val + 1) {c : Nat} (hc : c ≤ p.maxPoll) :
    pollsLeft p j 0 + 1 ≤ pollsLeft p i c := by
  have hloops : 81 - i.val = 81 - j.val + 1 := by omega
  simp only [pollsLeft, hloops, Nat.add_mul]
  omega

/-- By what the next poll finds: it counts, it counts past the bound, it moves on, or it was the last loop's end. -/
theorem captureEndsWithin_of_pollsLeft_le (hzero : ∀ j : Fin 82, i < j → s₀.counts[j] = 0)
    (hle : ∀ j : Fin 82, s₀.counts[j] ≤ p.maxPoll) (hn : pollsLeft p i s₀.counts[i] ≤ n) :
    CaptureEndsWithin p n i s₀ := by
  induction n generalizing i s₀ with
  | zero =>
    have hi := hle i
    simp only [pollsLeft] at hn
    omega
  | succ n ih =>
    by_cases hlevel : s₀.nextLevel = loopLevel i
    · by_cases hmore : s₀.counts[i] + 1 ≤ p.maxPoll
      case neg => exact .of_timedOut hle hlevel (by omega)
      refine .of_counted hlevel hmore (ih (fun j hj => ?_) (fun j => ?_) ?_)
      · exact (getElem_set_fin ..).trans ((if_neg hj.ne).trans (hzero j hj))
      · refine (getElem_set_fin ..).trans_le ?_
        split
        · exact hmore
        · exact hle j
      · have hcount : (s₀.polledOnce (s₀.counts.set i (s₀.counts[i] + 1)) true).counts[i] = s₀.counts[i] + 1 :=
          Vector.getElem_set_self _
        rw [hcount]
        simp only [pollsLeft] at hn ⊢
        omega
    · by_cases hlast : i = 81
      case pos => exact .of_completes hle hlevel hlast
      obtain ⟨j, hj⟩ : ∃ j : Fin 82, j.val = i.val + 1 := ⟨⟨i.val + 1, by omega⟩, rfl⟩
      refine .of_handsOver hlevel hj (ih (fun k hk => hzero k (by omega)) hle ?_)
      have hnext := pollsLeft_next hj (hle i)
      have hcount : (s₀.polledOnce s₀.counts false).counts[j] = 0 := hzero j (by omega)
      rw [hcount]
      omega

end

/-- From capture entry there is one end of all captures on the same line. -/
theorem captureEndsWithin_of_entry (p : Params) {s₀ : State} (h : s₀.counts = Vector.replicate 82 0) :
    CaptureEndsWithin p (82 * (p.maxPoll + 1)) 0 s₀ := by
  have hcount (j : Fin 82) : s₀.counts[j] = 0 := by simp [h]
  refine captureEndsWithin_of_pollsLeft_le (fun j _ => hcount j) (fun j => by simp [hcount]) ?_
  rw [hcount, pollsLeft]
  simp only [Fin.val_zero]
  omega

/-! What the end of a capture leaves: the timeout, Idle with counts, or Decoding with counts. -/

theorem CaptureEnd.result_of_capture {e : CaptureEnd} (h : e.full = true) {s : State} (hop : s.pos.curOp = .capture) :
    e.result s = .next { e.polls s with flags := s.flags.captured, pos := .restAt .idle } :=
  (result_of_full h s).trans (captureComplete_capture (s := e.polls s) hop)

theorem CaptureEnd.result_of_read {e : CaptureEnd} (h : e.full = true) {s : State} (hop : s.pos.curOp = .read) :
    e.result s = .next { e.polls s with
      flags := s.flags.captured
      pos := { s.pos with st := .decoding, slot := 0, phase := .low } } :=
  (result_of_full h s).trans (captureComplete_read (s := e.polls s) hop)

/-- Settles O24: the end of the capture is some end within the bound, whose samples are the events. -/
theorem everyCaptureEnds : Obligations.EveryCaptureEnds := by
  intro p s hst hslot hphase hop hcounts hquiet
  obtain ⟨e, ⟨hle, hfull⟩, hpos, hbound, hend⟩ := captureEndsWithin_of_entry p hcounts
  obtain ⟨hrun, hcapturing⟩ := hend s ⟨hst, hslot, hphase⟩ (State.patient_of_quiet hquiet) ⟨rfl, rfl, rfl⟩
  cases hf : e.full with
  | false =>
    exact ⟨_, _, e.taken, hpos, hbound, hrun.trans (e.result_of_not_full hf s), by simp [Position.restAt], rfl, rfl,
      hcapturing, .inr rfl, hle, fun hkind => absurd rfl hkind⟩
  | true =>
    rcases hop with hop | hop
    · exact ⟨_, _, e.taken, hpos, hbound, hrun.trans (e.result_of_capture hf hop), by simp [Position.restAt], rfl, rfl,
        hcapturing, .inl rfl, hle, fun _ => hfull hf⟩
    · exact ⟨_, _, e.taken, hpos, hbound, hrun.trans (e.result_of_read hf hop), by simp, rfl, rfl, hcapturing, .inl rfl,
        hle, fun _ => hfull hf⟩

/-! ### The run-length law -/

/-- The level that ends a loop. -/
def Phase.endsOn : Phase → Level
  | .low => .high
  | .high => .low

theorem Phase.endsOn_ne_waitsOut (q : Phase) : q.endsOn ≠ q.waitsOut := by
  cases q <;> simp [Phase.endsOn, Phase.waitsOut]

/-- The samples of loop `i` of a capture that fills the counters `x`. -/
def loopSamples (x : Vector Nat 82) (i : Fin 82) : List Level :=
  List.replicate x[i] (loopLevel i) ++ [(loopPhase i).endsOn]

/-- The samples from loop number `n` on. -/
def samplesFrom (x : Vector Nat 82) (n : Nat) : List Level := ((List.finRange 82).drop n).flatMap (loopSamples x)

theorem samplesFrom_eq_append (x : Vector Nat 82) (i : Fin 82) :
    samplesFrom x i.val = loopSamples x i ++ samplesFrom x (i.val + 1) := by
  rw [samplesFrom, List.drop_eq_getElem_cons (by simp), List.flatMap_cons, List.getElem_finRange]
  rfl

theorem samplesFrom_past (x : Vector Nat 82) {n : Nat} (hn : 82 ≤ n) : samplesFrom x n = [] := by
  rw [samplesFrom, List.drop_eq_nil_of_le (by simpa using hn), List.flatMap_nil]

theorem loopSamples_lowIndex (x : Vector Nat 82) (slot : Fin 41) :
    loopSamples x (lowIndex slot) = List.replicate x[lowIndex slot] .low ++ [.high] := by
  have hphase : loopPhase (lowIndex slot) = .low := loopPhase_pollIndex slot .low
  rw [loopSamples, loopLevel, hphase]
  rfl

theorem loopSamples_highIndex (x : Vector Nat 82) (slot : Fin 41) :
    loopSamples x (highIndex slot) = List.replicate x[highIndex slot] .high ++ [.low] := by
  have hphase : loopPhase (highIndex slot) = .high := loopPhase_pollIndex slot .high
  rw [loopSamples, loopLevel, hphase]
  rfl

/-- A slot's samples are those of its low loop and of its high loop. -/
theorem frameSamples_eq (x : Vector Nat 82) : frameSamples x = samplesFrom x 0 := by
  have hloops : List.finRange 82 = (List.finRange 41).flatMap fun slot => [lowIndex slot, highIndex slot] := by decide
  rw [samplesFrom, List.drop_zero, hloops, List.flatMap_assoc, frameSamples]
  refine congrArg (List.flatMap · _) (funext fun slot => ?_)
  simp only [List.flatMap_cons, List.flatMap_nil, loopSamples_lowIndex, loopSamples_highIndex]
  simp [slotSamples, lowIndex, highIndex]

/-- One sample ends each of the 82 loops, and the others are counted. -/
theorem length_frameSamples (x : Vector Nat 82) : (frameSamples x).length = 82 + x.toList.sum := by
  have htoList : x.toList = (List.finRange 82).map fun i => x[i] := List.ext_getElem (by simp) (by simp)
  have hloop (i : Fin 82) : (loopSamples x i).length = 1 + x[i] := by simp [loopSamples, Nat.add_comm]
  rw [frameSamples_eq, samplesFrom, List.drop_zero, List.length_flatMap, htoList]
  simp only [hloop, List.sum_map_add]
  simp

/-- The end of a capture that took the samples `taken` and fills the counters `x`. -/
def fullEnd (x : Vector Nat 82) (taken rest : List Level) (draws : Nat) : CaptureEnd :=
  ⟨taken, x, false, rest, draws, true⟩

section
variable {p : Params} {s : State} {i : Fin 82} {x : Vector Nat 82} {rest : List Level}

/-- A loop that its line ends within the bound, in what its last poll does. -/
theorem State.AtLoop.runWith_loop (h : s.AtLoop i) (hp : s.Patient) (hzero : s.counts[i] = 0) (hle : x[i] ≤ p.maxPoll)
    (hline : s.line = loopSamples x i ++ rest) :
    ∃ u, runWith p x[i] s = .next u ∧ u.AtLoop i ∧ u.Patient ∧ u.nextLevel ≠ loopLevel i ∧
      u.polledOnce u.counts false = s.polled (loopSamples x i) (s.counts.set i x[i]) false rest s.lineDraws := by
  have hcounting := h.runWith_counting (p := p) hp (n := x[i]) (rest := (loopPhase i).endsOn :: rest)
    (by simpa [loopSamples] using hline) (by omega)
  rw [hzero, Nat.zero_add] at hcounting
  refine ⟨_, hcounting, h.polled .., hp, ?_, ?_⟩
  · rw [State.nextLevel_of_line_eq_cons (rest := rest) rfl]
    exact Phase.endsOn_ne_waitsOut _
  · rw [State.polledOnce_of_line rfl, State.polled_polled]
    rfl

theorem State.AtLoop.runWith_loop_handsOver (h : s.AtLoop i) (hp : s.Patient) (hzero : s.counts[i] = 0)
    (hle : x[i] ≤ p.maxPoll) (hline : s.line = loopSamples x i ++ rest) {j : Fin 82} (hj : j.val = i.val + 1) :
    runWith p (loopSamples x i).length s =
      .next ((s.polled (loopSamples x i) (s.counts.set i x[i]) false rest s.lineDraws).toLoop j) := by
  obtain ⟨u, hrun, hat, hpu, hlevel, hpolled⟩ := h.runWith_loop (p := p) hp hzero hle hline
  have hlength : (loopSamples x i).length = x[i] + 1 := by simp [loopSamples]
  rw [hlength, runWith_add hrun, runWith_one, stepWith_patient hpu hat.busy, hat.handsOver hlevel hj, hpolled]

theorem State.AtLoop.endsRun_loop_last (h : s.AtLoop i) (hp : s.Patient) (hzero : s.counts[i] = 0)
    (hle : x[i] ≤ p.maxPoll) (hline : s.line = loopSamples x i ++ rest) (hlast : i = 81) :
    (fullEnd (s.counts.set i x[i]) (loopSamples x i) rest s.lineDraws).EndsRun p s := by
  obtain ⟨u, hrun, hat, hpu, hlevel, hpolled⟩ := h.runWith_loop (p := p) hp hzero hle hline
  have hlength : (loopSamples x i).length = x[i] + 1 := by simp [loopSamples]
  rw [CaptureEnd.EndsRun, fullEnd]
  dsimp only
  rw [hlength, runWith_add hrun, runWith_one, stepWith_patient hpu hat.busy, hat.completes hlevel hlast, hpolled]
  rfl

/-- The counters once loop `i` has its count, when they had those of the loops before it. -/
theorem getElem_set_of_done (hdone : ∀ j : Fin 82, s.counts[j] = if j < i then x[j] else 0) (j : Fin 82) :
    (s.counts.set i x[i])[j] = if j ≤ i then x[j] else 0 := by
  rw [getElem_set_fin]
  rcases lt_trichotomy i j with hij | rfl | hij
  · rw [if_neg hij.ne, hdone, if_neg hij.not_gt, if_neg hij.not_ge]
  · simp
  · rw [if_neg hij.ne', hdone, if_pos hij, if_pos hij.le]

/-- From loop `i` on the line fills the counters that are still 0. -/
theorem State.AtLoop.endsRun_samplesFrom (h : s.AtLoop i) (hp : s.Patient) (hle : ∀ j : Fin 82, x[j] ≤ p.maxPoll)
    (hdone : ∀ j : Fin 82, s.counts[j] = if j < i then x[j] else 0) (hline : s.line = samplesFrom x i.val ++ rest) :
    (fullEnd x (samplesFrom x i.val) rest s.lineDraws).EndsRun p s := by
  induction hn : 81 - i.val generalizing s i with
  | zero =>
    have hlast : i = 81 := Fin.ext (show i.val = 81 by omega)
    have hcounts : s.counts.set i x[i] = x := by
      refine Vector.ext fun j hj => (getElem_set_of_done hdone ⟨j, hj⟩).trans (if_pos ?_)
      exact Fin.le_def.2 (show j ≤ i.val by omega)
    have hsamples : samplesFrom x i.val = loopSamples x i := by
      rw [samplesFrom_eq_append, samplesFrom_past x (by omega), List.append_nil]
    rw [hsamples] at hline ⊢
    have hend := h.endsRun_loop_last (p := p) hp ((hdone i).trans (if_neg (lt_irrefl i))) (hle i) hline hlast
    rwa [hcounts] at hend
  | succ n ih =>
    obtain ⟨j, hj⟩ : ∃ j : Fin 82, j.val = i.val + 1 := ⟨⟨i.val + 1, by omega⟩, rfl⟩
    rw [samplesFrom_eq_append, ← hj] at hline ⊢
    rw [List.append_assoc] at hline
    have hrun := h.runWith_loop_handsOver (p := p) hp ((hdone i).trans (if_neg (lt_irrefl i))) (hle i) hline hj
    refine CaptureEnd.endsRun_after (e := fullEnd x (samplesFrom x j) rest s.lineDraws) hrun
      (ih ((h.polled ..).toLoop j) hp (fun k => ?_) rfl (by omega))
    refine (getElem_set_of_done hdone k).trans (if_congr ?_ rfl rfl)
    rw [Fin.le_def, Fin.lt_def]
    omega

/-- From capture entry the line that shows `x` fills all the counters. -/
theorem endsRun_frameSamples (hentry : s.AtLoop 0) (hcounts : s.counts = Vector.replicate 82 0) (hp : s.Patient)
    (hle : ∀ j : Fin 82, x[j] ≤ p.maxPoll) (hline : s.line = frameSamples x ++ rest) :
    (fullEnd x (frameSamples x) rest s.lineDraws).EndsRun p s := by
  rw [frameSamples_eq] at hline ⊢
  exact hentry.endsRun_samplesFrom hp hle (by simp [hcounts]) hline

end

/-- Settles O25: an accepted CAPTURE stands at capture entry, and the samples of its line number 82 more than the
counts. -/
theorem captureCountsTheRuns : Obligations.CaptureCountsTheRuns := by
  intro p s x rest hs hquiet hle hline
  have hend := endsRun_frameSamples (p := p) (s := s.accept.beginCapture) ⟨rfl, rfl, rfl⟩ rfl
    (State.patient_of_quiet hquiet) hle hline
  have hflags : s.accept.beginCapture.flags.captured = ⟨false, true, false, false, false⟩ := by
    simp [Flags.captured, hs.1]
  rw [CaptureEnd.EndsRun, CaptureEnd.result_of_capture rfl rfl, hflags] at hend
  rw [issueThenRun_of_exec (exec_admitted hs rfl), ← length_frameSamples]
  exact hend

end Sys2Proof.Machine
end

section
/-! SUPPORT. What a step does to the line (20_memory.md sections 2 and 5): at most one event, which says all of it; and
that a capture's steps are samples and counts only (41_pulse_capture.md section 4). -/

namespace Sys2Proof.Machine

/-! ### A capture's step -/

/-- Whatever else a capture's step does, it takes one sample, and it writes no counter of another slot. -/
theorem captureStep_next {p : Params} {s t : State} (h : captureStep p s = .next t) :
    ∃ res pos err valid x, t = { s.sampled res with
        pos := pos, err := err, flags := { s.flags with countsValid := valid }, counts := x } ∧
      ∀ j : Fin 82, j.val / 2 ≠ s.pos.slot.val → x[j] = s.counts[j] := by
  have hother (v : Nat) (j : Fin 82) (hj : j.val / 2 ≠ s.pos.slot.val) :
      (s.counts.set (pollIndex s.pos.slot s.pos.phase) v)[j] = s.counts[j] := by
    refine (getElem_set_fin ..).trans (if_neg ?_)
    rintro rfl
    exact hj (congrArg Fin.val (loopSlot_pollIndex s.pos.slot s.pos.phase))
  rcases captureStep_cases p s with ⟨-, hstep⟩ | ⟨-, hstep⟩ <;> rw [hstep, State.poll_eq_sampled] at h
  · cases h
    rcases countPoll_cases p.maxPoll (s.sampled (decide (s.nextLevel = s.pos.phase.waitsOut))) with ⟨-, hc⟩ | ⟨-, hc⟩
    · exact ⟨_, _, _, _, _, hc, hother _⟩
    · exact ⟨_, _, _, _, _, hc, hother _⟩
  · rcases endLoop_cases (s.sampled (decide (s.nextLevel = s.pos.phase.waitsOut))) with
      ⟨-, he⟩ | ⟨-, n, -, he⟩ | ⟨-, -, -, he⟩ | ⟨-, -, -, he⟩ | ⟨-, -, -, he⟩ <;> rw [he] at h <;> cases h
    · exact ⟨_, _, _, _, _, rfl, fun _ _ => rfl⟩
    · exact ⟨_, _, _, _, _, rfl, fun _ _ => rfl⟩
    · exact ⟨_, _, _, _, _, rfl, fun _ _ => rfl⟩
    · exact ⟨_, _, _, _, _, rfl, fun _ _ => rfl⟩

/-- Settles O48: the fields that the statement names are not among those that the step writes besides the sample. -/
theorem captureStepsOnlySample : Obligations.CaptureStepsOnlySample := by
  intro p s t hst hstep
  rw [sequencerStep_capturing p hst] at hstep
  obtain ⟨res, pos, err, valid, x, rfl, hother⟩ := captureStep_next hstep
  exact ⟨rfl, rfl, rfl, rfl, rfl, rfl, rfl, rfl, rfl, rfl, rfl, rfl, rfl, rfl, hother⟩

/-! ### Any step -/

/-- The event says how the pin and the line came from `s` to `t`. -/
def Event.Explains (s t : State) : Event → Prop
  | .sample v => v = s.nextLevel ∧ t.pin.dir = s.pin.dir ∧ t.pin.out = s.pin.out ∧ t.line = s.line.tail
  | .drive l => t.pin = { s.pin with out := l } ∧ t.line = s.line
  | .mode d => t.pin = { s.pin with dir := d } ∧ t.line = s.line
  | .hold _ => t.pin = s.pin ∧ t.line = s.line

/-- `t` is `s` with its line untouched. -/
def State.SameLine (s t : State) : Prop :=
  t.history = s.history ∧ t.pin = s.pin ∧ t.line = s.line ∧ t.lineDraws = s.lineDraws

/-- From `s` to `t` the line is touched through at most one event. -/
def State.OneTouch (s t : State) : Prop :=
  s.SameLine t ∨ ∃ e : Event, t.history = s.history ++ [e] ∧ e.Explains s t

theorem State.oneTouch_poll (a : Level) (s : State) : s.OneTouch (s.poll a) := .inr ⟨_, rfl, rfl, rfl, rfl, rfl⟩

theorem State.oneTouch_pinWrite (l : Level) (s : State) : s.OneTouch (s.pinWrite l) := .inr ⟨_, rfl, rfl, rfl⟩

theorem State.oneTouch_pinMode (d : Direction) (s : State) : s.OneTouch (s.pinMode d) := .inr ⟨_, rfl, rfl, rfl⟩

/-- An accepted operation's first step: a poll, a SET operation, or none of them. -/
theorem State.oneTouch_effect (i : Instr) (s : State) : s.OneTouch (effect i s.accept) := by
  cases i with
  | isLow => exact s.oneTouch_poll .low
  | isHigh => exact s.oneTouch_poll .high
  | setLow => exact s.oneTouch_pinWrite .low
  | setHigh => exact s.oneTouch_pinWrite .high
  | setMode d => exact s.oneTouch_pinMode d
  | capture | decode | convert | read => exact .inl ⟨rfl, rfl, rfl, rfl⟩

theorem oneTouch_of_exec {i : Instr} {s t : State} (h : exec i s = .next t) : s.OneTouch t := by
  rcases exec_cases i s with ⟨-, -, hexec⟩ | ⟨-, hexec⟩ <;> rw [hexec] at h <;> cases h
  · exact s.oneTouch_effect i
  · exact .inl ⟨rfl, rfl, rfl, rfl⟩

theorem oneTouch_of_hostWrite {r : Nat} {v : HostWord} {s t : State} (h : hostWrite r v s = .next t) :
    s.OneTouch t := by
  rcases hostWrite_cases r v s with ⟨-, i, -, hwrite⟩ | ⟨-, -, hwrite⟩ | ⟨-, hwrite⟩ <;> rw [hwrite] at h
  · exact oneTouch_of_exec h
  · cases h; exact .inl ⟨rfl, rfl, rfl, rfl⟩
  · cases h; exact .inl ⟨rfl, rfl, rfl, rfl⟩

theorem State.oneTouch_microStepped (s : State) : s.OneTouch s.microStepped := by
  unfold State.microStepped
  cases (microStep s.pos.upc).op with
  | setMode d => exact s.oneTouch_pinMode d
  | setLevel l => exact s.oneTouch_pinWrite l
  | hold t => exact .inr ⟨_, rfl, rfl, rfl⟩
  | releaseAndCapture => exact s.oneTouch_pinMode .input

theorem oneTouch_of_wakeStep {s t : State} (h : wakeStep s = .next t) : s.OneTouch t := by
  by_cases hrow : s.OnRow
  · rw [wakeStep_onRow hrow] at h
    cases h
    exact s.oneTouch_microStepped
  · exact absurd h (by simp [wakeStep, show ¬ s.pos.st = (microStep s.pos.upc).st from hrow])

theorem oneTouch_of_sequencerStep {p : Params} {s t : State} (h : sequencerStep p s = .next t) : s.OneTouch t := by
  cases hst : s.pos.st with
  | idle => rw [sequencerStep_idle p hst] at h; cases h; exact .inl ⟨rfl, rfl, rfl, rfl⟩
  | initFailed => rw [sequencerStep_initFailed p hst] at h; cases h; exact .inl ⟨rfl, rfl, rfl, rfl⟩
  | wakeHigh | startLow | ackWait =>
    rw [sequencerStep_waking p (by simp [hst, SessionState.waking])] at h
    exact oneTouch_of_wakeStep h
  | capturing =>
    rw [sequencerStep_capturing p hst] at h
    obtain ⟨res, pos, err, valid, x, rfl, -⟩ := captureStep_next h
    exact .inr ⟨_, rfl, rfl, rfl, rfl, rfl⟩
  | decoding =>
    rw [sequencerStep_decoding p hst] at h
    obtain ⟨pos, err, rfl⟩ := decodeStep_next h
    exact .inl ⟨rfl, rfl, rfl, rfl⟩
  | done => rw [sequencerStep_done p hst] at h; cases h; exact .inl ⟨rfl, rfl, rfl, rfl⟩

theorem oneTouch_of_stepWith {p : Params} {s t : State} (h : stepWith p s = .next t)
    (hreset : ∀ a ok rest, s.inputs = ⟨a, .reset ok⟩ :: rest → a.due s.busy = false) : s.OneTouch t := by
  rcases stepWith_cases p s with ⟨⟨a, i⟩, rest, hinputs, hdue, happly⟩ | ⟨l, hseq⟩
  · rw [happly] at h
    cases i with
    | reset ok => simp [hreset a ok rest hinputs] at hdue
    | read r => cases h; exact .inl ⟨rfl, rfl, rfl, rfl⟩
    | write r v => exact oneTouch_of_hostWrite (s := { s with inputs := rest }) h
  · rw [hseq] at h
    exact oneTouch_of_sequencerStep (s := { s with inputs := l }) h

/-- Settles O47: an input or the sequencer acts through one pin primitive at most, and each has its event. -/
theorem everyLineTouchIsOneEvent : Obligations.EveryLineTouchIsOneEvent := by
  intro p s t hstep hreset
  rcases oneTouch_of_stepWith hstep hreset with hsame | ⟨e, hhistory, hexplains⟩
  · exact .inl hsame
  · exact .inr ⟨e, hhistory, by cases e <;> exact hexplains⟩

end Sys2Proof.Machine
end

section
/-! SUPPORT. The corner cases of the threshold (42_frame_decoder.md section 3): forty bits that are all 1 or all 0. -/

namespace Sys2Proof.Machine

/-- A threshold of 0 makes every bit a 1. -/
theorem specBytes_of_sumLow_lt {x : Vector Nat 82} (h : specSumLow x < 40) :
    specBytes x = #v[0xFF, 0xFF, 0xFF, 0xFF, 0xFF] := by
  refine specBytes_eq_of_spells fun j i => ?_
  have hthresh : specSumLow x / 40 = 0 := Nat.div_eq_of_lt h
  rw [specBit, hthresh, if_pos (Nat.zero_le _)]
  revert j i
  decide

/-- High counts below the threshold make every bit a 0. -/
theorem specBytes_of_highCount_lt {x : Vector Nat 82} (h : ∀ k : Fin 40, highCount x k < specSumLow x / 40) :
    specBytes x = #v[0, 0, 0, 0, 0] := by
  refine specBytes_eq_of_spells fun j i => ?_
  rw [specBit, if_neg (h _).not_ge]
  revert j i
  decide

/-- Settles O32: the bytes are forty equal bits, whose checksum `FC` is not `FF` and whose checksum `00` is `00`. -/
theorem degenerateFramesDecodeAsTheSpecSays : Obligations.DegenerateFramesDecodeAsTheSpecSays := by
  intro p s hst hop
  obtain ⟨hwrites, hmismatch, hdecode, hread⟩ := decodeStepFollowsItsFiveSteps p s hst
  constructor
  · intro hsum
    have hbytes := specBytes_of_sumLow_lt hsum
    have hcheck : specChecksum #v[0xFF, 0xFF, 0xFF, 0xFF, 0xFF] = 0xFC := by decide
    rw [hbytes, hcheck] at hmismatch
    obtain ⟨t, hstep, herr, -, hpos⟩ := hmismatch (by decide)
    obtain ⟨-, -, htbytes, -⟩ := hwrites t hstep
    exact ⟨t, hstep, congrArg Position.st hpos, htbytes.trans hbytes, herr⟩
  · intro hhigh
    have hbytes := specBytes_of_highCount_lt hhigh
    have hcheck : (0 : Byte) = specChecksum #v[0, 0, 0, 0, 0] := by decide
    rw [hbytes] at hdecode hread
    rcases hop with hop | hop
    · exact ⟨_, hdecode hcheck hop, rfl, rfl, rfl⟩
    · exact ⟨_, hread hcheck hop, rfl, rfl, rfl⟩

end Sys2Proof.Machine
end

section
/-! SUPPORT. The host's register file (10_state.md section 7): the images of STATUS, ERR and PIN as numbers, from which
each field is read at its bits, the guarded registers, and the host's accesses. -/

namespace Sys2Proof.Machine

/-! ### Fields of a word -/

theorem append_toNat {m n : Nat} (hi : BitVec m) (lo : BitVec n) :
    (hi ++ lo).toNat = hi.toNat * 2 ^ n + lo.toNat := by
  rw [BitVec.toNat_append, ← Nat.shiftLeft_add_eq_or_of_lt lo.isLt, Nat.shiftLeft_eq]

theorem toNat_extractLsb' {m : Nat} (v : BitVec m) (k n : Nat) :
    (v.extractLsb' k n).toNat = v.toNat / 2 ^ k % 2 ^ n := by
  rw [BitVec.extractLsb'_toNat, Nat.shiftRight_eq_div_pow]

theorem extractLsb'_eq_iff {m k n : Nat} {v : BitVec m} {x : BitVec n} :
    v.extractLsb' k n = x ↔ v.toNat / 2 ^ k % 2 ^ n = x.toNat := by
  rw [← BitVec.toNat_inj, toNat_extractLsb']

/-! ### The images as numbers -/

/-- The first row of the register map. -/
theorem statusImage_toNat (s : State) : s.statusImage.toNat =
    (if s.busy then s.pos.curOp.word else 0).toNat * 2 ^ 24 + s.pos.phase.bit.toNat * 2 ^ 22 +
    s.pos.slot.val * 2 ^ 16 + s.pos.upc.val * 2 ^ 12 + s.pos.st.code.toNat * 2 ^ 8 + s.flags.cmdRefused.toNat * 2 ^ 5 +
    s.flags.resultValid.toNat * 2 ^ 4 + s.flags.readingValid.toNat * 2 ^ 3 + s.flags.countsValid.toNat * 2 ^ 2 +
    s.flags.initFail.toNat * 2 + s.busy.toNat := by
  have hslot : s.pos.slot.val % 64 = s.pos.slot.val := Nat.mod_eq_of_lt (by omega)
  have hupc : s.pos.upc.val % 8 = s.pos.upc.val := Nat.mod_eq_of_lt (by omega)
  refine (append_toNat _ _).trans ?_
  simp only [append_toNat, boolBit, BitVec.toNat_ofBool, BitVec.toNat_ofNat, Nat.zero_mod, Nat.reducePow, hslot, hupc]
  ring

theorem errImage_toNat (s : State) : s.errImage.toNat =
    s.err.computed.toNat * 2 ^ 16 + s.err.expected.toNat * 2 ^ 8 + s.err.kind.code.toNat := by
  refine (append_toNat _ _).trans ?_
  simp only [append_toNat, BitVec.toNat_ofNat, Nat.zero_mod]
  ring

theorem pinImage_toNat (s : State) : s.pinImage.toNat =
    s.pin.res.toNat * 2 ^ 2 + (levelBit s.pin.out).toNat * 2 + s.pin.dir.bit.toNat := by
  refine (append_toNat _ _).trans ?_
  simp only [append_toNat, boolBit, BitVec.toNat_ofBool, BitVec.toNat_ofNat, Nat.zero_mod]
  ring

/-! ### The codes in the images -/

theorem phase_bit_eq (q : Phase) : (if q = .high then 1 else 0 : BitVec 1) = q.bit := by
  cases q <;> rfl

theorem levelBit_eq (l : Level) : (if l = .high then 1 else 0 : BitVec 1) = levelBit l := by
  cases l <;> rfl

theorem direction_bit_eq (d : Direction) : (if d = .output then 1 else 0 : BitVec 1) = d.bit := by
  cases d <;> rfl

/-- The STATUS register, field by field. -/
theorem statusImage_fields (s : State) :
    s.statusImage.extractLsb' 0 1 = .ofBool s.busy ∧
    s.statusImage.extractLsb' 1 1 = .ofBool s.flags.initFail ∧
    s.statusImage.extractLsb' 2 1 = .ofBool s.flags.countsValid ∧
    s.statusImage.extractLsb' 3 1 = .ofBool s.flags.readingValid ∧
    s.statusImage.extractLsb' 4 1 = .ofBool s.flags.resultValid ∧
    s.statusImage.extractLsb' 5 1 = .ofBool s.flags.cmdRefused ∧
    s.statusImage.extractLsb' 6 2 = 0#2 ∧
    s.statusImage.extractLsb' 8 3 = s.pos.st.code ∧
    s.statusImage.extractLsb' 11 1 = 0#1 ∧
    (s.statusImage.extractLsb' 12 3).toNat = s.pos.upc.val ∧
    s.statusImage.extractLsb' 15 1 = 0#1 ∧
    (s.statusImage.extractLsb' 16 6).toNat = s.pos.slot.val ∧
    s.statusImage.extractLsb' 22 1 = s.pos.phase.bit ∧
    s.statusImage.extractLsb' 23 1 = 0#1 ∧
    s.statusImage.extractLsb' 24 8 = if s.busy then s.pos.curOp.word else 0 := by
  have himage := statusImage_toNat s
  have hword := (if s.busy then s.pos.curOp.word else 0 : Byte).isLt
  have hphase := s.pos.phase.bit.isLt
  have hst := s.pos.st.code.isLt
  have hrefused := s.flags.cmdRefused.toNat_lt
  have hresult := s.flags.resultValid.toNat_lt
  have hreading := s.flags.readingValid.toNat_lt
  have hcounts := s.flags.countsValid.toNat_lt
  have hinit := s.flags.initFail.toNat_lt
  have hbusy := s.busy.toNat_lt
  simp only [extractLsb'_eq_iff, toNat_extractLsb', BitVec.toNat_ofBool, BitVec.toNat_ofNat]
  and_intros <;> omega

/-- The ERR register, field by field. -/
theorem errImage_fields (s : State) :
    s.errImage.extractLsb' 0 2 = s.err.kind.code ∧ s.errImage.extractLsb' 2 6 = 0#6 ∧
    s.errImage.extractLsb' 8 8 = s.err.expected ∧ s.errImage.extractLsb' 16 8 = s.err.computed ∧
    s.errImage.extractLsb' 24 8 = 0#8 := by
  have himage := errImage_toNat s
  have hkind := s.err.kind.code.isLt
  have hexpected := s.err.expected.isLt
  have hcomputed := s.err.computed.isLt
  simp only [extractLsb'_eq_iff, BitVec.toNat_ofNat]
  and_intros <;> omega

/-- The PIN register, field by field. -/
theorem pinImage_fields (s : State) :
    s.pinImage.extractLsb' 0 1 = s.pin.dir.bit ∧ s.pinImage.extractLsb' 1 1 = levelBit s.pin.out ∧
    s.pinImage.extractLsb' 2 1 = .ofBool s.pin.res ∧ s.pinImage.extractLsb' 3 29 = 0#29 := by
  have himage := pinImage_toNat s
  have hdir := s.pin.dir.bit.isLt
  have hout := (levelBit s.pin.out).isLt
  have hres := s.pin.res.toNat_lt
  simp only [extractLsb'_eq_iff, BitVec.toNat_ofBool, BitVec.toNat_ofNat]
  and_intros <;> omega

/-- Settles O37: each field is read off its image, and its code is the one of the register map. -/
theorem statusErrAndPinReadAsTheRegisterMapSays : Obligations.StatusErrAndPinReadAsTheRegisterMapSays := by
  intro s
  refine ⟨?status, ?err, ?pin⟩
  case status =>
    obtain ⟨hbusy, hinit, hcounts, hreading, hresult, hrefused, h7, hst, h11, hupc, h15, hslot, hphase, h23, hop⟩ :=
      statusImage_fields s
    refine ⟨hbusy, hinit, hcounts, hreading, hresult, hrefused, h7, (congrArg BitVec.toNat hst).trans ?_, h11, hupc,
      h15, hslot, hphase.trans (phase_bit_eq _).symm, h23, hop.trans (if_congr Iff.rfl ?_ rfl)⟩
    · cases s.pos.st <;> rfl
    · cases s.pos.curOp <;> rfl
  case err =>
    obtain ⟨hkind, h7, hexpected, hcomputed, h31⟩ := errImage_fields s
    refine ⟨(congrArg BitVec.toNat hkind).trans ?_, h7, hexpected, hcomputed, h31⟩
    cases s.err.kind <;> rfl
  case pin =>
    obtain ⟨hdir, hout, hres, h31⟩ := pinImage_fields s
    exact ⟨hdir.trans (direction_bit_eq _).symm, hout.trans (levelBit_eq _).symm, hres, h31⟩

/-! ### The guarded registers -/

theorem guardedField_of_valid {w : Nat} (v : BitVec w) (free : Nat → BitVec w) (n : Nat) :
    guardedField true v free n = v.setWidth 32 := rfl

theorem guardedField_of_invalid {w : Nat} (v : BitVec w) (free : Nat → BitVec w) (n : Nat) :
    guardedField false v free n = (free n).setWidth 32 := rfl

theorem registerImage_hum (s : State) :
    s.registerImage 4 = guardedField s.flags.resultValid s.humField Config.freeResult s.readDraws := rfl

theorem registerImage_temp (s : State) :
    s.registerImage 5 = guardedField s.flags.resultValid s.tempField Config.freeResult s.readDraws := rfl

/-- DATA0 to DATA4 are five registers of one kind. -/
theorem registerImage_data (s : State) (j : Fin 5) :
    s.registerImage (8 + j.val) = guardedField s.flags.readingValid s.bytes[j] Config.freeByte s.readDraws := by
  fin_cases j <;> rfl

theorem registerImage_reserved (s : State) {r : Nat} (h : r = 0 ∨ r = 6 ∨ r = 7 ∨ 13 ≤ r) : s.registerImage r = 0 := by
  rcases h with rfl | rfl | rfl | h
  · rfl
  · rfl
  · rfl
  · obtain ⟨n, rfl⟩ := Nat.exists_eq_add_of_le' h
    rfl

/-- Settles O38: behind a flag of 1 the guard passes the register, behind a flag of 0 the draw of the read's number. -/
theorem guardedRegistersReadOnlyWhileValid : Obligations.GuardedRegistersReadOnlyWhileValid := by
  refine ⟨fun s h => ?result, fun s h j => ?reading, fun s t hs ht hdraws => ?noResult,
    fun s t hs ht hdraws j => ?noReading, fun s r => registerImage_reserved s⟩
  case result =>
    rw [registerImage_hum, registerImage_temp, h, guardedField_of_valid, guardedField_of_valid]
    exact ⟨rfl, rfl⟩
  case reading => rw [registerImage_data, h, guardedField_of_valid]
  case noResult =>
    simp only [registerImage_hum, registerImage_temp, hs, ht, hdraws, guardedField_of_invalid, and_self]
  case noReading =>
    rw [registerImage_data, registerImage_data, hs, ht, hdraws, guardedField_of_invalid, guardedField_of_invalid]

/-! ### The host's accesses -/

theorem hostWrite_ignored {r : Nat} (h : r ≠ 0) (v : HostWord) (s : State) : hostWrite r v s = .next s := if_neg h

/-- Settles O39: the access is what lands, and neither access writes a register of the block. -/
theorem hostAccessesHaveNoSideEffect : Obligations.HostAccessesHaveNoSideEffect := by
  intro p s a r rest hdue
  constructor
  · intro hinputs
    exact stepWith_due p hinputs hdue
  · intro v hr hinputs
    exact (stepWith_due p hinputs hdue).trans (hostWrite_ignored hr v _)

/-- Settles O5: a due event lands, and what lands of an assigned word written to CMD is its operation. -/
theorem stepRunsThePresentedOperation : Obligations.StepRunsThePresentedOperation := by
  have hword (p : Params) (s : State) (a : Arrival) (v : HostWord) (rest : List HostEvent) (i : Instr)
      (hinputs : s.inputs = ⟨a, .write 0 v⟩ :: rest) (hdue : a.due s.busy = true)
      (hdecode : decodeWord (v.extractLsb' 0 8) = .ok i) : stepWith p s = exec i { s with inputs := rest } :=
    (stepWith_due p hinputs hdue).trans (hostWrite_of_decodeWord_ok hdecode)
  refine ⟨fun p s e rest => stepWith_due p, hword, fun s i => ?_⟩
  have hbyte : BitVec.extractLsb' 0 8 (BitVec.ofNat 32 ((encode i).toNat % 2 ^ 8)) = encode i := by
    rw [extractLsb'_eq_iff, BitVec.toNat_ofNat]
    have hlt := (encode i).isLt
    omega
  exact hword Config.params (s.withFetchWord 8 (encode i).toNat) (.after 0) _ s.inputs i rfl rfl
    (decodeWord_eq_ok_iff.2 hbyte)

/-- Settles O6: an event that is not due waits, its count one lower. -/
theorem stepIsTheSequencersWhenNoEventIsDue : Obligations.StepIsTheSequencersWhenNoEventIsDue := by
  intro p s
  refine ⟨stepWith_quiet p, fun n i rest hinputs => ?_, fun i rest hinputs hbusy => ?_⟩
  · rw [stepWith_waiting p hinputs rfl, hinputs]
    rfl
  · rw [stepWith_waiting p hinputs (by simp [Arrival.due, hbusy]), hinputs]
    have hwait : tickInputs (⟨.whenIdle, i⟩ :: rest) = s.inputs := hinputs.symm
    rw [hwait]

/-! ### Words -/

/-- Settles O2: the word of an operation has the operation's assigned fields, and decoding inverts encoding. -/
theorem decodeAndEncodeAgree : Obligations.DecodeAndEncodeAgree := by
  refine ⟨fun i => ⟨?_, decodeWord_eq_ok_iff.2 rfl⟩, fun w i hdecode => (decodeWord_eq_ok_iff.1 hdecode).symm⟩
  exact (exists_decodeFields_eq_ok_iff i.fields).1 ⟨i, decodeFields_fields i⟩

/-- Settles O40: the two tables, row by row. -/
theorem errorKindsHaveTheirCodesAndLabels : Obligations.ErrorKindsHaveTheirCodesAndLabels :=
  ⟨rfl, rfl, rfl, rfl, rfl, rfl, rfl, rfl⟩

/-- Settles O42: the state after reset and its images are computed. -/
theorem resetStateHasTheResetValues : Obligations.ResetStateHasTheResetValues :=
  ⟨rfl, rfl, rfl, rfl, rfl, rfl, rfl, rfl, rfl, rfl, rfl⟩

end Sys2Proof.Machine
end

section
/-! SUPPORT. The step that accepts a composite operation, written out (10_state.md R28), the bounds of the open
parameters (00_scope.md R5), and what the conversion reads (43_reading.md R135). -/

namespace Sys2Proof.Machine

/-- Settles O13: the effect on the accepting state is the cascade and capture entry. -/
theorem captureAcceptedEntersWithZeroCounters : Obligations.CaptureAcceptedEntersWithZeroCounters :=
  ⟨decodeWord_eq_ok_iff.2 rfl, fun _ hs => exec_admitted hs rfl⟩

/-- Settles O14: the effect on the accepting state, whose counts the cascade keeps; without them the word lacks its
input. -/
theorem decodeAcceptedOnlyWithCounts : Obligations.DecodeAcceptedOnlyWithCounts := by
  refine ⟨decodeWord_eq_ok_iff.2 rfl, fun s hs => ⟨fun hcounts => ?_, fun hcounts => exec_refused (.inr hcounts)⟩⟩
  rw [exec_admitted (i := .decode) hs hcounts, ← hcounts]
  rfl

/-- Settles O16: the effect on the accepting state is the cascade and the start of the wake sequence. -/
theorem readAcceptedStartsTheWakeSequence : Obligations.ReadAcceptedStartsTheWakeSequence :=
  ⟨decodeWord_eq_ok_iff.2 rfl, fun _ hs => exec_admitted hs rfl⟩

theorem params_maxPoll_le : Config.params.maxPoll ≤ 2 ^ Config.counterWidth - 2 :=
  Nat.succ_le_of_lt Config.maxPollLessOne.isLt

theorem params_tPoll_pos : 0 < Config.params.tPoll := by
  have hslack : 0 < 1 + |Config.pollSlack| := by positivity
  unfold Config.params
  dsimp only
  split
  · exact inv_pos.2 hslack
  · exact hslack

/-- Settles O20: the open constants enter the parameters through their absolute values and their type. -/
theorem parametersKeepTheirBounds : Obligations.ParametersKeepTheirBounds where
  maxPoll_pos := Nat.le_add_left 1 _
  maxPoll_le := params_maxPoll_le
  tWakeHigh_ge := params_tWakeHigh_ge
  tStartLow_ge := params_tStartLow_ge
  tAck_ge := params_tAck_ge
  tAck_le := params_tAck_le
  tPoll_pos := params_tPoll_pos

/-- Settles O36: the registers are formed from bytes 0 to 3. -/
theorem convertIgnoresTheChecksumByte : Obligations.ConvertIgnoresTheChecksumByte := by
  intro q c
  have hbyte {j : Nat} (hj : j < 4) : (q.set 4 c)[j] = q[j] := Vector.getElem_set_ne _ _ (by omega)
  simp only [convert, hbyte (show 0 < 4 by decide), hbyte (show 1 < 4 by decide), hbyte (show 2 < 4 by decide),
    hbyte (show 3 < 4 by decide)]

end Sys2Proof.Machine
end

section
/-! SUPPORT. Whole runs of READ (44_sensor_session.md sections 3 and 5): what they leave is a function of the end of the
capture, and of nothing else, and READ's expansion as a host program leaves the same. -/

namespace Sys2Proof.Machine

/-! ### What an acquisition leaves -/

/-- The bytes that a decode of the capture's counts packs. -/
def CaptureEnd.bytes (e : CaptureEnd) : Vector Byte 5 := specBytes e.counts

/-- The acquisition has a result: the capture is full and its checksum matches. -/
def CaptureEnd.succeeds (e : CaptureEnd) : Bool := e.full && checksumOk e.bytes

/-- The error of the acquisition, if it has no result. -/
def CaptureEnd.err (e : CaptureEnd) : ErrorReg :=
  if e.full then if checksumOk e.bytes then .clear else .checksum e.bytes[4] (specChecksum e.bytes) else .readTimeout

/-- What an acquisition leaves of `s` when its capture ended as `e`, the pin having gone through `events` before it, and
its last word having been refused or not. -/
def CaptureEnd.leaves (e : CaptureEnd) (events : List Event) (refused : Bool) (s : State) : State :=
  { s with
    pos := .restAt .idle
    pin := ⟨.input, .high, e.res⟩
    flags := ⟨false, false, false, e.succeeds, refused⟩
    err := e.err
    counts := e.counts
    sumLow := if e.full then specSumLow e.counts else s.sumLow
    thresh := if e.full then specSumLow e.counts / 40 else s.thresh
    bytes := if e.full then e.bytes else s.bytes
    result := if e.succeeds then convert e.bytes else s.result
    history := s.history ++ events ++ e.taken.map .sample
    line := e.line
    lineDraws := e.draws }

/-- The steps of a READ after its capture: the decode, and the conversion of a Reading. -/
def CaptureEnd.stepsAfter (e : CaptureEnd) : Nat := if e.full then if checksumOk e.bytes then 2 else 1 else 0

theorem checksumOk_of_ne {q : Vector Byte 5} (h : q[4] ≠ specChecksum q) : checksumOk q = false :=
  Bool.eq_false_iff.2 (mt (checksumOk_iff q).1 h)

/-- The three ways an acquisition ends. -/
theorem CaptureEnd.cases (e : CaptureEnd) :
    e.full = false ∨ (e.full = true ∧ e.bytes[4] ≠ specChecksum e.bytes) ∨
      (e.full = true ∧ e.bytes[4] = specChecksum e.bytes) := by
  cases e.full with
  | false => exact .inl rfl
  | true => exact .inr ((ne_or_eq _ _).imp (⟨rfl, ·⟩) (⟨rfl, ·⟩))

theorem CaptureEnd.succeeds_of_timeout {e : CaptureEnd} (h : e.full = false) : e.succeeds = false := by
  simp [CaptureEnd.succeeds, h]

theorem CaptureEnd.succeeds_of_mismatch {e : CaptureEnd} (hne : e.bytes[4] ≠ specChecksum e.bytes) :
    e.succeeds = false := by
  simp [CaptureEnd.succeeds, checksumOk_of_ne hne]

theorem CaptureEnd.succeeds_of_match {e : CaptureEnd} (h : e.full = true) (heq : e.bytes[4] = specChecksum e.bytes) :
    e.succeeds = true := by
  simp [CaptureEnd.succeeds, h, (checksumOk_iff _).2 heq]

section
variable (e : CaptureEnd) (events : List Event) (refused : Bool) (s : State)

theorem CaptureEnd.stepsAfter_of_timeout (h : e.full = false) : e.stepsAfter = 0 := by
  simp [CaptureEnd.stepsAfter, h]

theorem CaptureEnd.stepsAfter_of_mismatch (h : e.full = true) (hne : e.bytes[4] ≠ specChecksum e.bytes) :
    e.stepsAfter = 1 := by
  simp [CaptureEnd.stepsAfter, h, checksumOk_of_ne hne]

theorem CaptureEnd.stepsAfter_of_match (h : e.full = true) (heq : e.bytes[4] = specChecksum e.bytes) :
    e.stepsAfter = 2 := by
  simp [CaptureEnd.stepsAfter, h, (checksumOk_iff _).2 heq]

theorem CaptureEnd.leaves_of_timeout (h : e.full = false) : e.leaves events refused s = { s with
    pos := .restAt .idle
    pin := ⟨.input, .high, e.res⟩
    flags := ⟨false, false, false, false, refused⟩
    err := .readTimeout
    counts := e.counts
    history := s.history ++ events ++ e.taken.map .sample
    line := e.line
    lineDraws := e.draws } := by
  simp [CaptureEnd.leaves, CaptureEnd.succeeds, CaptureEnd.err, h]

theorem CaptureEnd.leaves_of_mismatch (h : e.full = true) (hne : e.bytes[4] ≠ specChecksum e.bytes) :
    e.leaves events refused s = { s with
      pos := .restAt .idle
      pin := ⟨.input, .high, e.res⟩
      flags := ⟨false, false, false, false, refused⟩
      err := .checksum e.bytes[4] (specChecksum e.bytes)
      counts := e.counts
      sumLow := specSumLow e.counts
      thresh := specSumLow e.counts / 40
      bytes := e.bytes
      history := s.history ++ events ++ e.taken.map .sample
      line := e.line
      lineDraws := e.draws } := by
  simp [CaptureEnd.leaves, CaptureEnd.succeeds, CaptureEnd.err, h, checksumOk_of_ne hne]

theorem CaptureEnd.leaves_of_match (h : e.full = true) (heq : e.bytes[4] = specChecksum e.bytes) :
    e.leaves events refused s = { s with
      pos := .restAt .idle
      pin := ⟨.input, .high, e.res⟩
      flags := ⟨false, false, false, true, refused⟩
      err := .clear
      counts := e.counts
      sumLow := specSumLow e.counts
      thresh := specSumLow e.counts / 40
      bytes := e.bytes
      result := convert e.bytes
      history := s.history ++ events ++ e.taken.map .sample
      line := e.line
      lineDraws := e.draws } := by
  simp [CaptureEnd.leaves, CaptureEnd.succeeds, CaptureEnd.err, h, (checksumOk_iff _).2 heq]

end

/-! ### Busy runs -/

/-- A run of `n` steps from `s` to `t`, `BUSY` before each of them. -/
structure BusyRun (p : Params) (n : Nat) (s t : State) : Prop where
  run : runWith p n s = .next t
  busy : ∀ j, j < n → ∃ u, runWith p j s = .next u ∧ u.busy = true

theorem BusyRun.zero (p : Params) (s : State) : BusyRun p 0 s s := ⟨rfl, by simp⟩

theorem BusyRun.step {p : Params} {s t u : State} {n : Nat} (hbusy : s.busy = true) (hstep : stepWith p s = .next t)
    (hrest : BusyRun p n t u) : BusyRun p (n + 1) s u where
  run := (runWith_succ hstep n).trans hrest.run
  busy j hj := by
    cases j with
    | zero => exact ⟨s, rfl, hbusy⟩
    | succ j => rw [runWith_succ hstep]; exact hrest.busy j (by omega)

theorem BusyRun.trans {p : Params} {s t u : State} {m n : Nat} (hfirst : BusyRun p m s t) (hsecond : BusyRun p n t u) :
    BusyRun p (m + n) s u where
  run := (runWith_add hfirst.run n).trans hsecond.run
  busy j hj := by
    by_cases hlt : j < m
    · exact hfirst.busy j hlt
    · obtain ⟨k, rfl⟩ := Nat.exists_eq_add_of_le (Nat.le_of_not_lt hlt)
      rw [runWith_add hfirst.run]
      exact hsecond.busy k (by omega)

theorem CapturingFor.busyRun {p : Params} {s t : State} {n : Nat} (h : CapturingFor p n s)
    (hrun : runWith p n s = .next t) : BusyRun p n s t where
  run := hrun
  busy j hj := by
    obtain ⟨u, hu, hst⟩ := h j hj
    exact ⟨u, hu, by simp [State.busy, hst, SessionState.busy]⟩

/-! ### READ -/

/-- An admitted READ at its first poll. -/
def State.readEntry (s : State) : State := State.microStepped^[8] s.accept.beginRead

theorem State.readEntry_eq {s : State} (hs : s.Admits) : s.readEntry = { s with
    pin := ⟨.input, .high, s.pin.res⟩
    flags := ⟨false, false, false, false, false⟩
    err := .clear
    counts := Vector.replicate 82 0
    history := s.history ++ wakeEvents
    pos := ⟨.capturing, 0, 0, .low, .read⟩ } := by
  have hflags : s.accept.flags.cascadeCapture = ⟨false, false, false, false, false⟩ := by simp [hs.1]
  rw [State.readEntry, microStepped_eight_beginRead, hflags]
  rfl

/-- Capture entry, reached through either operation, on the line of `s`. -/
theorem State.readEntry_stands {s : State} (hs : s.Admits) (hquiet : s.inputs = []) :
    s.readEntry.AtLoop 0 ∧ s.readEntry.Patient ∧ s.readEntry.counts = Vector.replicate 82 0 ∧
      s.readEntry.line = s.line ∧ s.readEntry.lineDraws = s.lineDraws := by
  rw [State.readEntry_eq hs]
  exact ⟨⟨rfl, rfl, rfl⟩, State.patient_of_quiet hquiet, rfl, rfl, rfl⟩

theorem busyRun_readEntry (p : Params) {s : State} (hquiet : s.inputs = []) :
    BusyRun p 8 s.accept.beginRead s.readEntry := by
  have hwalk (j : Nat) (hj : j ≤ 8) :
      runWith p j s.accept.beginRead = .next (State.microStepped^[j] s.accept.beginRead) :=
    runWith_microSteps p (State.beginRead_onRow s.accept) hquiet (by simpa using hj)
  exact ⟨hwalk 8 le_rfl, fun j hj => ⟨_, hwalk j hj.le, (driven_microStepped_beginRead s.accept hj.le).1⟩⟩

section
variable {p : Params} {s : State} {e : CaptureEnd}

/-- From Decoding a READ whose checksum does not match is one step from Idle. -/
theorem busyRun_read_mismatch (hst : s.pos.st = .decoding) (hquiet : s.inputs = [])
    (hreading : s.flags.readingValid = false) (hne : (specBytes s.counts)[4] ≠ specChecksum (specBytes s.counts)) :
    BusyRun p 1 s { s with
      sumLow := specSumLow s.counts
      thresh := specSumLow s.counts / 40
      bytes := specBytes s.counts
      flags := ⟨s.flags.initFail, false, false, s.flags.resultValid, s.flags.cmdRefused⟩
      err := .checksum (specBytes s.counts)[4] (specChecksum (specBytes s.counts))
      pos := .restAt .idle } := by
  have hbusy : s.busy = true := by simp [State.busy, hst, SessionState.busy]
  exact .step hbusy ((stepWith_quiet p hquiet).trans (checksumErrorCarriesBothBytes p s hst hreading hne)) (.zero p _)

theorem stepWith_done (p : Params) {s : State} (hst : s.pos.st = .done) (hquiet : s.inputs = []) :
    stepWith p s = .next s.doneStep :=
  (stepWith_quiet p hquiet).trans (sequencerStep_done p hst)

/-- From Decoding a READ whose checksum matches is two steps from Idle. -/
theorem busyRun_read_match (hst : s.pos.st = .decoding) (hop : s.pos.curOp = .read) (hquiet : s.inputs = [])
    (heq : (specBytes s.counts)[4] = specChecksum (specBytes s.counts)) :
    BusyRun p 2 s { s with
      sumLow := specSumLow s.counts
      thresh := specSumLow s.counts / 40
      bytes := specBytes s.counts
      result := convert (specBytes s.counts)
      flags := ⟨s.flags.initFail, false, false, true, s.flags.cmdRefused⟩
      pos := .restAt .idle } := by
  obtain ⟨-, -, -, hread⟩ := decodeStepFollowsItsFiveSteps p s hst
  have hbusy : s.busy = true := by simp [State.busy, hst, SessionState.busy]
  exact .step hbusy ((stepWith_quiet p hquiet).trans (hread heq hop))
    (.step rfl (stepWith_done p rfl hquiet) (.zero p _))

/-- What follows the end of a READ's capture. -/
theorem busyRun_read_after (p : Params) (hs : s.Admits) (hquiet : s.inputs = []) (e : CaptureEnd) :
    ∃ t, e.result s.readEntry = .next t ∧ BusyRun p e.stepsAfter t (e.leaves wakeEvents false s) := by
  rw [State.readEntry_eq hs]
  rcases e.cases with hfull | ⟨hfull, hne⟩ | ⟨hfull, heq⟩
  · rw [e.stepsAfter_of_timeout hfull, e.leaves_of_timeout _ _ s hfull]
    exact ⟨_, e.result_of_not_full hfull _, .zero p _⟩
  · rw [e.stepsAfter_of_mismatch hfull hne, e.leaves_of_mismatch _ _ s hfull hne]
    exact ⟨_, e.result_of_read hfull rfl, busyRun_read_mismatch rfl hquiet rfl hne⟩
  · rw [e.stepsAfter_of_match hfull heq, e.leaves_of_match _ _ s hfull heq]
    exact ⟨_, e.result_of_read hfull rfl, busyRun_read_match rfl rfl hquiet heq⟩

/-- A whole READ: the wake sequence, the capture, and what follows its end. -/
theorem issueThenRun_read_leaves (hs : s.Admits) (hquiet : s.inputs = []) (hend : e.EndsRun p s.readEntry) :
    issueThenRun p .read (8 + e.taken.length + e.stepsAfter) s = .next (e.leaves wakeEvents false s) := by
  obtain ⟨t, hresult, hafter⟩ := busyRun_read_after p hs hquiet e
  have hcapture := (runWith_add (busyRun_readEntry p hquiet).run e.taken.length).trans (hend.trans hresult)
  rw [issueThenRun_of_exec (exec_admitted hs rfl)]
  exact (runWith_add hcapture e.stepsAfter).trans hafter.run

theorem busyRun_read (hs : s.Admits) (hquiet : s.inputs = []) (hend : e.EndsRun p s.readEntry)
    (hcapturing : CapturingFor p e.taken.length s.readEntry) :
    BusyRun p (8 + e.taken.length + e.stepsAfter) s.accept.beginRead (e.leaves wakeEvents false s) := by
  obtain ⟨t, hresult, hafter⟩ := busyRun_read_after p hs hquiet e
  exact ((busyRun_readEntry p hquiet).trans (hcapturing.busyRun (hend.trans hresult))).trans hafter

end

/-- Settles O49: the capture ends within its bound, and each of its three ends has its outcome. -/
theorem everyReadReturnsToIdle : Obligations.EveryReadReturnsToIdle := by
  intro p s hs hquiet
  obtain ⟨hat, hpatient, hcounts, -, -⟩ := State.readEntry_stands hs hquiet
  obtain ⟨e, -, -, hlength, hend⟩ := captureEndsWithin_of_entry p hcounts
  obtain ⟨hrun, hcapturing⟩ := hend _ hat hpatient ⟨rfl, rfl, rfl⟩
  have hbusy := busyRun_read hs hquiet hrun hcapturing
  have hafter : e.stepsAfter ≤ 2 := by unfold CaptureEnd.stepsAfter; split_ifs <;> decide
  have hexec : ∀ k, issueThenRun p .read k s = runWith p k s.accept.beginRead :=
    issueThenRun_of_exec (exec_admitted hs rfl)
  refine ⟨8 + e.taken.length + e.stepsAfter, e.leaves wakeEvents false s, by omega, (hexec _).trans hbusy.run, rfl, rfl,
    rfl, rfl, rfl, rfl, rfl, ?_, fun j hj => ?_⟩
  · rcases e.cases with hfull | ⟨hfull, hne⟩ | ⟨hfull, heq⟩
    · rw [e.leaves_of_timeout _ _ s hfull]; exact .inr (.inl ⟨rfl, rfl⟩)
    · rw [e.leaves_of_mismatch _ _ s hfull hne]; exact .inr (.inr ⟨rfl, rfl, hne⟩)
    · rw [e.leaves_of_match _ _ s hfull heq]; exact .inl ⟨rfl, rfl⟩
  · rw [hexec]; exact hbusy.busy j hj

/-- Settles O50: the capture fills the counters with the counts, which decode to the quintet they spell. -/
theorem readReproducesTheSpelledReading : Obligations.ReadReproducesTheSpelledReading := by
  intro p s x q rest hs hquiet hle hspells hq hline
  obtain ⟨hat, hpatient, hcounts, hentryLine, hdraws⟩ := State.readEntry_stands hs hquiet
  have hend := endsRun_frameSamples (p := p) hat hcounts hpatient hle (hentryLine.trans hline)
  rw [hdraws] at hend
  have hbytes : (fullEnd x (frameSamples x) rest s.lineDraws).bytes = q := specBytes_eq_of_spells hspells
  have hmatch := hq
  rw [← hbytes] at hmatch
  have hread := issueThenRun_read_leaves hs hquiet hend
  rw [CaptureEnd.leaves_of_match _ _ _ _ rfl hmatch, CaptureEnd.stepsAfter_of_match _ rfl hmatch, hbytes] at hread
  rw [← length_frameSamples]
  exact hread

/-- Settles O52: two captures on one line have one end, and it is all that READ leaves of them. -/
theorem readForgetsEverythingEarlier : Obligations.ReadForgetsEverythingEarlier := by
  intro p s s' hs hs' hquiet hquiet' hline hdraws
  obtain ⟨hat, hpatient, hcounts, hentryLine, hentryDraws⟩ := State.readEntry_stands hs hquiet
  obtain ⟨hat', hpatient', hcounts', hentryLine', hentryDraws'⟩ := State.readEntry_stands hs' hquiet'
  obtain ⟨e, -, -, -, hend⟩ := captureEndsWithin_of_entry p hcounts
  have hrun := (hend _ hat hpatient ⟨rfl, rfl, rfl⟩).1
  have hrun' := (hend _ hat' hpatient' ⟨hcounts'.trans hcounts.symm,
    hentryLine'.trans (hline.symm.trans hentryLine.symm), hentryDraws'.trans (hdraws.symm.trans hentryDraws.symm)⟩).1
  refine ⟨_, _, _, wakeEvents ++ e.taken.map .sample, issueThenRun_read_leaves hs hquiet hrun,
    issueThenRun_read_leaves hs' hquiet' hrun', rfl, rfl, rfl, rfl, rfl, rfl, fun hvalid => ?_, ?_, ?_⟩
  · have hsucceeds : e.succeeds = true := hvalid
    simp only [CaptureEnd.leaves, hsucceeds, if_true]
  · exact List.append_assoc ..
  · exact List.append_assoc ..

/-! ### READ's expansion as a host program -/

/-- The same block with the host events `l` to come. -/
def State.withInputs (s : State) (l : List HostEvent) : State := { s with inputs := l }

theorem effect_withInputs (i : Instr) (s : State) (l : List HostEvent) :
    effect i (s.withInputs l).accept = (effect i s.accept).withInputs l := by
  cases i <;> rfl

theorem needs_withInputs (i : Instr) (s : State) (l : List HostEvent) : needs i (s.withInputs l) = needs i s := by
  cases i <;> rfl

section
variable (p : Params) {s : State} {i : Instr} {rest : List HostEvent}

/-- A program line lands as soon as the block is idle, and is its operation. -/
theorem stepWith_programLine (hidle : s.busy = false) (hinputs : s.inputs = programLine i :: rest) :
    stepWith p s = exec i (s.withInputs rest) := by
  have hdue : (programLine i).arrival.due s.busy = true := by simp [programLine, Arrival.due, hidle]
  have hbyte : BitVec.extractLsb' 0 8 ((encode i).setWidth 32) = encode i := by
    rw [extractLsb'_eq_iff, BitVec.toNat_setWidth]
    have hlt := (encode i).isLt
    omega
  exact (stepWith_due p hinputs hdue).trans (hostWrite_of_decodeWord_ok (decodeWord_eq_ok_iff.2 hbyte))

theorem stepWith_programLine_accepted (hs : s.Admits) (hneeds : needs i s = true)
    (hinputs : s.inputs = programLine i :: rest) : stepWith p s = .next ((effect i s.accept).withInputs rest) := by
  rw [stepWith_programLine p hs.busy hinputs, exec_admitted (s := s.withInputs rest) hs (by rwa [needs_withInputs]),
    effect_withInputs]

theorem stepWith_programLine_refused (hidle : s.busy = false) (hneeds : needs i s = false)
    (hinputs : s.inputs = programLine i :: rest) : stepWith p s = .next (s.refuse.withInputs rest) := by
  rw [stepWith_programLine p hidle hinputs, exec_refused (.inr (by rwa [needs_withInputs]))]
  rfl

end

/-! The lines before the capture: a SET operation leaves the port open for the next line. -/

/-- The SET operations of the expansion. -/
def wakeOps : List Instr := [.setMode .output, .setHigh, .setLow, .setHigh, .setMode .input]

/-- The state after operations that are accepted, one effect after the other. -/
def State.afterOps (s : State) (is : List Instr) : State := is.foldl (fun t i => effect i t.accept) s

theorem State.Admits.effect_of_mem_wakeOps {s : State} (hs : s.Admits) {i : Instr} (hi : i ∈ wakeOps) :
    (effect i s.accept).Admits ∧ needs i s = true := by
  simp only [wakeOps, List.mem_cons, List.not_mem_nil, or_false] at hi
  rcases hi with rfl | rfl | rfl | rfl | rfl <;> exact ⟨hs, rfl⟩

theorem State.afterOps_withInputs (is : List Instr) (s : State) (l : List HostEvent) :
    (s.withInputs l).afterOps is = (s.afterOps is).withInputs l := by
  induction is generalizing s with
  | nil => rfl
  | cons i is ih =>
    show ((effect i (s.withInputs l).accept)).afterOps is = _
    rw [effect_withInputs, ih]
    rfl

theorem runWith_wakeOps (p : Params) {is : List Instr} (his : ∀ i ∈ is, i ∈ wakeOps) {s : State} (hs : s.Admits)
    {rest : List HostEvent} (hinputs : s.inputs = is.map programLine ++ rest) :
    runWith p is.length s = .next ((s.afterOps is).withInputs rest) := by
  induction is generalizing s with
  | nil =>
    obtain rfl : s.inputs = rest := hinputs
    rfl
  | cons i is ih =>
    obtain ⟨hport, hneeds⟩ := hs.effect_of_mem_wakeOps (his i (by simp))
    have hrest := ih (fun j hj => his j (by simp [hj])) hport
      (s := (effect i s.accept).withInputs (is.map programLine ++ rest)) rfl
    rw [State.afterOps_withInputs] at hrest
    exact (runWith_succ (stepWith_programLine_accepted p hs hneeds hinputs) is.length).trans hrest

/-- The lines after the capture. -/
def lastLines : List HostEvent := [programLine .decode, programLine .convert]

/-- The block when the expansion's CAPTURE is accepted. -/
def State.expansionEntry (s : State) : State := { s with
  pin := ⟨.input, .high, s.pin.res⟩
  flags := ⟨false, false, false, false, false⟩
  err := .clear
  counts := Vector.replicate 82 0
  history := s.history ++ wakeEventsWithoutHolds
  pos := ⟨.capturing, s.pos.upc, 0, .low, .capture⟩
  inputs := lastLines }

theorem State.afterOps_wakeOps {s : State} (hs : s.Admits) :
    ((s.afterOps wakeOps).accept.beginCapture).withInputs lastLines = s.expansionEntry := by
  simp [State.afterOps, wakeOps, effect, State.accept, State.pinMode, State.pinWrite, State.beginCapture,
    State.captureEntry, State.clearError, State.withInputs, State.expansionEntry, wakeEventsWithoutHolds, hs.1]

theorem runWith_expansion_entry (p : Params) {s : State} (hs : s.Admits) :
    runWith p 6 { s with inputs := readExpansion } = .next s.expansionEntry := by
  have hport : (s.afterOps wakeOps).Admits := hs
  have hwake := runWith_wakeOps p (is := wakeOps) (fun _ h => h) (s := s.withInputs readExpansion) hs
    (rest := programLine .capture :: lastLines) rfl
  rw [State.afterOps_withInputs] at hwake
  have hcapture := stepWith_programLine_accepted p (i := .capture) (rest := lastLines)
    (s := (s.afterOps wakeOps).withInputs (programLine .capture :: lastLines)) hport rfl rfl
  rw [effect_withInputs] at hcapture
  rw [← State.afterOps_wakeOps hs]
  exact (runWith_add hwake 1).trans ((runWith_one p _).trans hcapture)

/-! The lines after the capture: refused without counts, and CONVERT without a Reading. -/

section
variable {p : Params} {s : State} (hinputs : s.inputs = lastLines)
include hinputs

theorem runWith_lastLines_refused (hidle : s.busy = false) (hcounts : s.flags.countsValid = false)
    (hreading : s.flags.readingValid = false) : runWith p 2 s = .next (s.refuse.withInputs []) := by
  rw [runWith_succ (stepWith_programLine_refused p (i := .decode) hidle hcounts hinputs), runWith_one]
  exact stepWith_programLine_refused p (i := .convert) hidle hreading rfl

/-- The DECODE is accepted, and its decode step is the sequencer's, the last line waiting. -/
theorem runWith_lastLines_decode (hs : s.Admits) (hcounts : s.flags.countsValid = true) {t : State}
    (hdecode : sequencerStep p (s.accept.beginDecode.withInputs [programLine .convert]) = .next t) :
    runWith p 3 s = stepWith p t := by
  have hpatient : (s.accept.beginDecode.withInputs [programLine .convert]).Patient := by
    simp [State.Patient, State.withInputs, programLine]
  have haccepted : stepWith p s = .next (s.accept.beginDecode.withInputs [programLine .convert]) :=
    stepWith_programLine_accepted p (i := .decode) hs hcounts hinputs
  rw [runWith_succ haccepted, runWith_succ ((stepWith_patient hpatient rfl).trans hdecode), runWith_one]

theorem runWith_lastLines_mismatch (hs : s.Admits) (hcounts : s.flags.countsValid = true)
    (hne : (specBytes s.counts)[4] ≠ specChecksum (specBytes s.counts)) :
    runWith p 3 s = .next { s with
      sumLow := specSumLow s.counts
      thresh := specSumLow s.counts / 40
      bytes := specBytes s.counts
      flags := ⟨s.flags.initFail, false, false, false, true⟩
      err := .checksum (specBytes s.counts)[4] (specChecksum (specBytes s.counts))
      pos := .restAt .idle
      inputs := [] } := by
  have hdecode := checksumErrorCarriesBothBytes p (s.accept.beginDecode.withInputs [programLine .convert]) rfl rfl hne
  rw [runWith_lastLines_decode hinputs hs hcounts hdecode]
  exact stepWith_programLine_refused p (i := .convert) rfl rfl rfl

theorem runWith_lastLines_match (hs : s.Admits) (hcounts : s.flags.countsValid = true)
    (heq : (specBytes s.counts)[4] = specChecksum (specBytes s.counts)) :
    runWith p 3 s = .next { s with
      sumLow := specSumLow s.counts
      thresh := specSumLow s.counts / 40
      bytes := specBytes s.counts
      result := convert (specBytes s.counts)
      flags := ⟨s.flags.initFail, false, false, true, false⟩
      err := .clear
      pos := .restAt .idle
      inputs := [] } := by
  obtain ⟨-, -, hdecode, -⟩ :=
    decodeStepFollowsItsFiveSteps p (s.accept.beginDecode.withInputs [programLine .convert]) rfl
  have hport : s.flags.initFail = false := hs.1
  rw [runWith_lastLines_decode hinputs hs hcounts (hdecode heq rfl)]
  exact stepWith_programLine_accepted p (i := .convert) ⟨hport, rfl⟩ rfl rfl

end

/-- What follows the end of the expansion's capture. -/
theorem runWith_expansion_after (p : Params) {s : State} (hquiet : s.inputs = []) (e : CaptureEnd) :
    ∃ t n, e.result s.expansionEntry = .next t ∧
      runWith p n t = .next (e.leaves wakeEventsWithoutHolds (!e.succeeds) s) := by
  rcases e.cases with hfull | ⟨hfull, hne⟩ | ⟨hfull, heq⟩
  · refine ⟨_, 2, e.result_of_not_full hfull _, ?_⟩
    rw [CaptureEnd.succeeds_of_timeout hfull, e.leaves_of_timeout _ _ s hfull, hquiet]
    exact runWith_lastLines_refused rfl rfl rfl rfl
  · refine ⟨_, 3, e.result_of_capture hfull rfl, ?_⟩
    rw [CaptureEnd.succeeds_of_mismatch hne, e.leaves_of_mismatch _ _ s hfull hne, hquiet]
    exact runWith_lastLines_mismatch rfl ⟨rfl, rfl⟩ rfl hne
  · refine ⟨_, 3, e.result_of_capture hfull rfl, ?_⟩
    rw [CaptureEnd.succeeds_of_match hfull heq, e.leaves_of_match _ _ s hfull heq, hquiet]
    exact runWith_lastLines_match rfl ⟨rfl, rfl⟩ rfl heq

theorem CaptureEnd.err_kind_eq_none_iff (e : CaptureEnd) : e.err.kind = .none ↔ e.succeeds = true := by
  unfold CaptureEnd.err CaptureEnd.succeeds
  cases e.full with
  | false => simp [ErrorReg.readTimeout]
  | true => cases checksumOk e.bytes <;> simp [ErrorReg.clear, ErrorReg.checksum]

/-- Settles O51: the two captures stand alike at their first poll and so have one end; the registers that each run
leaves are those of this end. -/
theorem readAgreesWithItsExpansion : Obligations.ReadAgreesWithItsExpansion := by
  intro p s hs hquiet
  obtain ⟨hat, hpatient, hcounts, hline, hdraws⟩ := State.readEntry_stands hs hquiet
  obtain ⟨e, -, -, -, hend⟩ := captureEndsWithin_of_entry p hcounts
  have hread := (hend _ hat hpatient ⟨rfl, rfl, rfl⟩).1
  have hexpansion := (hend s.expansionEntry ⟨rfl, rfl, rfl⟩
    (by simp [State.Patient, State.expansionEntry, lastLines, programLine])
    ⟨hcounts.symm, hline.symm, hdraws.symm⟩).1
  obtain ⟨t, n, hresult, hafter⟩ := runWith_expansion_after p hquiet e
  have hcapture := (runWith_add (runWith_expansion_entry p hs) e.taken.length).trans (hexpansion.trans hresult)
  refine ⟨_, _, _, _, e.taken.map .sample, issueThenRun_read_leaves hs hquiet hread, rfl,
    (runWith_add hcapture n).trans hafter, rfl, hquiet, rfl, rfl, rfl, rfl, rfl, rfl, rfl, rfl, rfl, rfl, rfl, rfl, rfl,
    rfl, ?_⟩
  have hkind := not_congr e.err_kind_eq_none_iff
  simpa [CaptureEnd.leaves] using hkind.symm

end Sys2Proof.Machine
end
